-- ==== Sys2Proof/Word.lean ====
section
/-! DEFINITION. The word types of the NES core and the names of its addressing modes. -/

namespace Sys2Proof

/-- A byte: CPU registers, memory cells, PPU registers (00 R9). -/
abbrev Byte := BitVec 8

/-- A CPU address or a 16-bit register (00 R9). -/
abbrev Word := BitVec 16

/-- A PPU-space address, after the mask to 14 bits (20 R109). -/
abbrev PpuAddr := BitVec 14

/-- The PPU's V and T registers (10 R49). -/
abbrev VAddr := BitVec 15

/-- The thirteen addressing modes (30 R193). -/
inductive Mode where
  | imp | acc | imm | zp0 | zpx | zpy | abs | abx | aby | ind | izx | izy | rel
  deriving DecidableEq, Repr

end Sys2Proof
end

