-- ==== Sys2Proof/Syntax.lean ====
section
/-! DEFINITION. The instructions: one constructor per row of spec/opcode_table.json (30 R196), those with
operand bytes first and then the one-byte ones, each group in the table's order.
A constructor's argument is what the operand bytes hold (30 R193): an immediate byte, a zero-page address or
pointer base, a 16-bit address, or a branch offset. A mnemonic with several opcodes in one mode carries the
opcode byte in its name. -/

namespace Sys2Proof

inductive Instr where
  /-- `01`: ORA ($nn,X), R284. -/
  | oraIzx (zp : Byte)
  /-- `03`: SLO ($nn,X), R351. -/
  | sloIzx (zp : Byte)
  /-- `04`: NOP $nn, R364. -/
  | nopZp004 (zp : Byte)
  /-- `05`: ORA $nn, R284. -/
  | oraZp0 (zp : Byte)
  /-- `06`: ASL $nn, R296. -/
  | aslZp0 (zp : Byte)
  /-- `07`: SLO $nn, R351. -/
  | sloZp0 (zp : Byte)
  /-- `09`: ORA #$nn, R284. -/
  | oraImm (imm : Byte)
  /-- `0B`: ANC #$nn, R359. -/
  | ancImm0B (imm : Byte)
  /-- `0C`: NOP $nnnn, R364. -/
  | nopAbs0C (addr : Word)
  /-- `0D`: ORA $nnnn, R284. -/
  | oraAbs (addr : Word)
  /-- `0E`: ASL $nnnn, R296. -/
  | aslAbs (addr : Word)
  /-- `0F`: SLO $nnnn, R351. -/
  | sloAbs (addr : Word)
  /-- `10`: BPL $nnnn, R317. -/
  | bpl (rel : Byte)
  /-- `11`: ORA ($nn),Y, R284. -/
  | oraIzy (zp : Byte)
  /-- `13`: SLO ($nn),Y, R351. -/
  | sloIzy (zp : Byte)
  /-- `14`: NOP $nn,X, R364. -/
  | nopZpx14 (zp : Byte)
  /-- `15`: ORA $nn,X, R284. -/
  | oraZpx (zp : Byte)
  /-- `16`: ASL $nn,X, R296. -/
  | aslZpx (zp : Byte)
  /-- `17`: SLO $nn,X, R351. -/
  | sloZpx (zp : Byte)
  /-- `19`: ORA $nnnn,Y, R284. -/
  | oraAby (addr : Word)
  /-- `1B`: SLO $nnnn,Y, R351. -/
  | sloAby (addr : Word)
  /-- `1C`: NOP $nnnn,X, R364. -/
  | nopAbx1C (addr : Word)
  /-- `1D`: ORA $nnnn,X, R284. -/
  | oraAbx (addr : Word)
  /-- `1E`: ASL $nnnn,X, R296. -/
  | aslAbx (addr : Word)
  /-- `1F`: SLO $nnnn,X, R351. -/
  | sloAbx (addr : Word)
  /-- `20`: JSR $nnnn, R311. -/
  | jsrAbs (addr : Word)
  /-- `21`: AND ($nn,X), R283. -/
  | andIzx (zp : Byte)
  /-- `23`: RLA ($nn,X), R352. -/
  | rlaIzx (zp : Byte)
  /-- `24`: BIT $nn, R289. -/
  | bitZp0 (zp : Byte)
  /-- `25`: AND $nn, R283. -/
  | andZp0 (zp : Byte)
  /-- `26`: ROL $nn, R298. -/
  | rolZp0 (zp : Byte)
  /-- `27`: RLA $nn, R352. -/
  | rlaZp0 (zp : Byte)
  /-- `29`: AND #$nn, R283. -/
  | andImm (imm : Byte)
  /-- `2B`: ANC #$nn, R359. -/
  | ancImm2B (imm : Byte)
  /-- `2C`: BIT $nnnn, R289. -/
  | bitAbs (addr : Word)
  /-- `2D`: AND $nnnn, R283. -/
  | andAbs (addr : Word)
  /-- `2E`: ROL $nnnn, R298. -/
  | rolAbs (addr : Word)
  /-- `2F`: RLA $nnnn, R352. -/
  | rlaAbs (addr : Word)
  /-- `30`: BMI $nnnn, R318. -/
  | bmi (rel : Byte)
  /-- `31`: AND ($nn),Y, R283. -/
  | andIzy (zp : Byte)
  /-- `33`: RLA ($nn),Y, R352. -/
  | rlaIzy (zp : Byte)
  /-- `34`: NOP $nn,X, R364. -/
  | nopZpx34 (zp : Byte)
  /-- `35`: AND $nn,X, R283. -/
  | andZpx (zp : Byte)
  /-- `36`: ROL $nn,X, R298. -/
  | rolZpx (zp : Byte)
  /-- `37`: RLA $nn,X, R352. -/
  | rlaZpx (zp : Byte)
  /-- `39`: AND $nnnn,Y, R283. -/
  | andAby (addr : Word)
  /-- `3B`: RLA $nnnn,Y, R352. -/
  | rlaAby (addr : Word)
  /-- `3C`: NOP $nnnn,X, R364. -/
  | nopAbx3C (addr : Word)
  /-- `3D`: AND $nnnn,X, R283. -/
  | andAbx (addr : Word)
  /-- `3E`: ROL $nnnn,X, R298. -/
  | rolAbx (addr : Word)
  /-- `3F`: RLA $nnnn,X, R352. -/
  | rlaAbx (addr : Word)
  /-- `41`: EOR ($nn,X), R285. -/
  | eorIzx (zp : Byte)
  /-- `43`: SRE ($nn,X), R353. -/
  | sreIzx (zp : Byte)
  /-- `44`: NOP $nn, R364. -/
  | nopZp044 (zp : Byte)
  /-- `45`: EOR $nn, R285. -/
  | eorZp0 (zp : Byte)
  /-- `46`: LSR $nn, R297. -/
  | lsrZp0 (zp : Byte)
  /-- `47`: SRE $nn, R353. -/
  | sreZp0 (zp : Byte)
  /-- `49`: EOR #$nn, R285. -/
  | eorImm (imm : Byte)
  /-- `4B`: ALR #$nn, R360. -/
  | alrImm (imm : Byte)
  /-- `4C`: JMP $nnnn, R310. -/
  | jmpAbs (addr : Word)
  /-- `4D`: EOR $nnnn, R285. -/
  | eorAbs (addr : Word)
  /-- `4E`: LSR $nnnn, R297. -/
  | lsrAbs (addr : Word)
  /-- `4F`: SRE $nnnn, R353. -/
  | sreAbs (addr : Word)
  /-- `50`: BVC $nnnn, R319. -/
  | bvc (rel : Byte)
  /-- `51`: EOR ($nn),Y, R285. -/
  | eorIzy (zp : Byte)
  /-- `53`: SRE ($nn),Y, R353. -/
  | sreIzy (zp : Byte)
  /-- `54`: NOP $nn,X, R364. -/
  | nopZpx54 (zp : Byte)
  /-- `55`: EOR $nn,X, R285. -/
  | eorZpx (zp : Byte)
  /-- `56`: LSR $nn,X, R297. -/
  | lsrZpx (zp : Byte)
  /-- `57`: SRE $nn,X, R353. -/
  | sreZpx (zp : Byte)
  /-- `59`: EOR $nnnn,Y, R285. -/
  | eorAby (addr : Word)
  /-- `5B`: SRE $nnnn,Y, R353. -/
  | sreAby (addr : Word)
  /-- `5C`: NOP $nnnn,X, R364. -/
  | nopAbx5C (addr : Word)
  /-- `5D`: EOR $nnnn,X, R285. -/
  | eorAbx (addr : Word)
  /-- `5E`: LSR $nnnn,X, R297. -/
  | lsrAbx (addr : Word)
  /-- `5F`: SRE $nnnn,X, R353. -/
  | sreAbx (addr : Word)
  /-- `61`: ADC ($nn,X), R280. -/
  | adcIzx (zp : Byte)
  /-- `63`: RRA ($nn,X), R354. -/
  | rraIzx (zp : Byte)
  /-- `64`: NOP $nn, R364. -/
  | nopZp064 (zp : Byte)
  /-- `65`: ADC $nn, R280. -/
  | adcZp0 (zp : Byte)
  /-- `66`: ROR $nn, R299. -/
  | rorZp0 (zp : Byte)
  /-- `67`: RRA $nn, R354. -/
  | rraZp0 (zp : Byte)
  /-- `69`: ADC #$nn, R280. -/
  | adcImm (imm : Byte)
  /-- `6B`: ARR #$nn, R361. -/
  | arrImm (imm : Byte)
  /-- `6C`: JMP ($nnnn), R310. -/
  | jmpInd (addr : Word)
  /-- `6D`: ADC $nnnn, R280. -/
  | adcAbs (addr : Word)
  /-- `6E`: ROR $nnnn, R299. -/
  | rorAbs (addr : Word)
  /-- `6F`: RRA $nnnn, R354. -/
  | rraAbs (addr : Word)
  /-- `70`: BVS $nnnn, R320. -/
  | bvs (rel : Byte)
  /-- `71`: ADC ($nn),Y, R280. -/
  | adcIzy (zp : Byte)
  /-- `73`: RRA ($nn),Y, R354. -/
  | rraIzy (zp : Byte)
  /-- `74`: NOP $nn,X, R364. -/
  | nopZpx74 (zp : Byte)
  /-- `75`: ADC $nn,X, R280. -/
  | adcZpx (zp : Byte)
  /-- `76`: ROR $nn,X, R299. -/
  | rorZpx (zp : Byte)
  /-- `77`: RRA $nn,X, R354. -/
  | rraZpx (zp : Byte)
  /-- `79`: ADC $nnnn,Y, R280. -/
  | adcAby (addr : Word)
  /-- `7B`: RRA $nnnn,Y, R354. -/
  | rraAby (addr : Word)
  /-- `7C`: NOP $nnnn,X, R364. -/
  | nopAbx7C (addr : Word)
  /-- `7D`: ADC $nnnn,X, R280. -/
  | adcAbx (addr : Word)
  /-- `7E`: ROR $nnnn,X, R299. -/
  | rorAbx (addr : Word)
  /-- `7F`: RRA $nnnn,X, R354. -/
  | rraAbx (addr : Word)
  /-- `80`: NOP #$nn, R364. -/
  | nopImm80 (imm : Byte)
  /-- `81`: STA ($nn,X), R263. -/
  | staIzx (zp : Byte)
  /-- `82`: NOP #$nn, R364. -/
  | nopImm82 (imm : Byte)
  /-- `83`: SAX ($nn,X), R358. -/
  | saxIzx (zp : Byte)
  /-- `84`: STY $nn, R265. -/
  | styZp0 (zp : Byte)
  /-- `85`: STA $nn, R263. -/
  | staZp0 (zp : Byte)
  /-- `86`: STX $nn, R264. -/
  | stxZp0 (zp : Byte)
  /-- `87`: SAX $nn, R358. -/
  | saxZp0 (zp : Byte)
  /-- `89`: NOP #$nn, R364. -/
  | nopImm89 (imm : Byte)
  /-- `8B`: XAA #$nn, R376. -/
  | xaaImm (imm : Byte)
  /-- `8C`: STY $nnnn, R265. -/
  | styAbs (addr : Word)
  /-- `8D`: STA $nnnn, R263. -/
  | staAbs (addr : Word)
  /-- `8E`: STX $nnnn, R264. -/
  | stxAbs (addr : Word)
  /-- `8F`: SAX $nnnn, R358. -/
  | saxAbs (addr : Word)
  /-- `90`: BCC $nnnn, R321. -/
  | bcc (rel : Byte)
  /-- `91`: STA ($nn),Y, R263. -/
  | staIzy (zp : Byte)
  /-- `93`: AHX ($nn),Y, R372. -/
  | ahxIzy (zp : Byte)
  /-- `94`: STY $nn,X, R265. -/
  | styZpx (zp : Byte)
  /-- `95`: STA $nn,X, R263. -/
  | staZpx (zp : Byte)
  /-- `96`: STX $nn,Y, R264. -/
  | stxZpy (zp : Byte)
  /-- `97`: SAX $nn,Y, R358. -/
  | saxZpy (zp : Byte)
  /-- `99`: STA $nnnn,Y, R263. -/
  | staAby (addr : Word)
  /-- `9B`: TAS $nnnn,Y, R373. -/
  | tasAby (addr : Word)
  /-- `9C`: SHY $nnnn,X, R374. -/
  | shyAbx (addr : Word)
  /-- `9D`: STA $nnnn,X, R263. -/
  | staAbx (addr : Word)
  /-- `9E`: SHX $nnnn,Y, R375. -/
  | shxAby (addr : Word)
  /-- `9F`: AHX $nnnn,Y, R372. -/
  | ahxAby (addr : Word)
  /-- `A0`: LDY #$nn, R262. -/
  | ldyImm (imm : Byte)
  /-- `A1`: LDA ($nn,X), R260. -/
  | ldaIzx (zp : Byte)
  /-- `A2`: LDX #$nn, R261. -/
  | ldxImm (imm : Byte)
  /-- `A3`: LAX ($nn,X), R357. -/
  | laxIzx (zp : Byte)
  /-- `A4`: LDY $nn, R262. -/
  | ldyZp0 (zp : Byte)
  /-- `A5`: LDA $nn, R260. -/
  | ldaZp0 (zp : Byte)
  /-- `A6`: LDX $nn, R261. -/
  | ldxZp0 (zp : Byte)
  /-- `A7`: LAX $nn, R357. -/
  | laxZp0 (zp : Byte)
  /-- `A9`: LDA #$nn, R260. -/
  | ldaImm (imm : Byte)
  /-- `AB`: LAX #$nn, R357. -/
  | laxImm (imm : Byte)
  /-- `AC`: LDY $nnnn, R262. -/
  | ldyAbs (addr : Word)
  /-- `AD`: LDA $nnnn, R260. -/
  | ldaAbs (addr : Word)
  /-- `AE`: LDX $nnnn, R261. -/
  | ldxAbs (addr : Word)
  /-- `AF`: LAX $nnnn, R357. -/
  | laxAbs (addr : Word)
  /-- `B0`: BCS $nnnn, R322. -/
  | bcs (rel : Byte)
  /-- `B1`: LDA ($nn),Y, R260. -/
  | ldaIzy (zp : Byte)
  /-- `B3`: LAX ($nn),Y, R357. -/
  | laxIzy (zp : Byte)
  /-- `B4`: LDY $nn,X, R262. -/
  | ldyZpx (zp : Byte)
  /-- `B5`: LDA $nn,X, R260. -/
  | ldaZpx (zp : Byte)
  /-- `B6`: LDX $nn,Y, R261. -/
  | ldxZpy (zp : Byte)
  /-- `B7`: LAX $nn,Y, R357. -/
  | laxZpy (zp : Byte)
  /-- `B9`: LDA $nnnn,Y, R260. -/
  | ldaAby (addr : Word)
  /-- `BB`: LAS $nnnn,Y, R363. -/
  | lasAby (addr : Word)
  /-- `BC`: LDY $nnnn,X, R262. -/
  | ldyAbx (addr : Word)
  /-- `BD`: LDA $nnnn,X, R260. -/
  | ldaAbx (addr : Word)
  /-- `BE`: LDX $nnnn,Y, R261. -/
  | ldxAby (addr : Word)
  /-- `BF`: LAX $nnnn,Y, R357. -/
  | laxAby (addr : Word)
  /-- `C0`: CPY #$nn, R288. -/
  | cpyImm (imm : Byte)
  /-- `C1`: CMP ($nn,X), R286. -/
  | cmpIzx (zp : Byte)
  /-- `C2`: NOP #$nn, R364. -/
  | nopImmC2 (imm : Byte)
  /-- `C3`: DCP ($nn,X), R355. -/
  | dcpIzx (zp : Byte)
  /-- `C4`: CPY $nn, R288. -/
  | cpyZp0 (zp : Byte)
  /-- `C5`: CMP $nn, R286. -/
  | cmpZp0 (zp : Byte)
  /-- `C6`: DEC $nn, R291. -/
  | decZp0 (zp : Byte)
  /-- `C7`: DCP $nn, R355. -/
  | dcpZp0 (zp : Byte)
  /-- `C9`: CMP #$nn, R286. -/
  | cmpImm (imm : Byte)
  /-- `CB`: AXS #$nn, R362. -/
  | axsImm (imm : Byte)
  /-- `CC`: CPY $nnnn, R288. -/
  | cpyAbs (addr : Word)
  /-- `CD`: CMP $nnnn, R286. -/
  | cmpAbs (addr : Word)
  /-- `CE`: DEC $nnnn, R291. -/
  | decAbs (addr : Word)
  /-- `CF`: DCP $nnnn, R355. -/
  | dcpAbs (addr : Word)
  /-- `D0`: BNE $nnnn, R323. -/
  | bne (rel : Byte)
  /-- `D1`: CMP ($nn),Y, R286. -/
  | cmpIzy (zp : Byte)
  /-- `D3`: DCP ($nn),Y, R355. -/
  | dcpIzy (zp : Byte)
  /-- `D4`: NOP $nn,X, R364. -/
  | nopZpxD4 (zp : Byte)
  /-- `D5`: CMP $nn,X, R286. -/
  | cmpZpx (zp : Byte)
  /-- `D6`: DEC $nn,X, R291. -/
  | decZpx (zp : Byte)
  /-- `D7`: DCP $nn,X, R355. -/
  | dcpZpx (zp : Byte)
  /-- `D9`: CMP $nnnn,Y, R286. -/
  | cmpAby (addr : Word)
  /-- `DB`: DCP $nnnn,Y, R355. -/
  | dcpAby (addr : Word)
  /-- `DC`: NOP $nnnn,X, R364. -/
  | nopAbxDC (addr : Word)
  /-- `DD`: CMP $nnnn,X, R286. -/
  | cmpAbx (addr : Word)
  /-- `DE`: DEC $nnnn,X, R291. -/
  | decAbx (addr : Word)
  /-- `DF`: DCP $nnnn,X, R355. -/
  | dcpAbx (addr : Word)
  /-- `E0`: CPX #$nn, R287. -/
  | cpxImm (imm : Byte)
  /-- `E1`: SBC ($nn,X), R282. -/
  | sbcIzx (zp : Byte)
  /-- `E2`: NOP #$nn, R364. -/
  | nopImmE2 (imm : Byte)
  /-- `E3`: ISC ($nn,X), R356. -/
  | iscIzx (zp : Byte)
  /-- `E4`: CPX $nn, R287. -/
  | cpxZp0 (zp : Byte)
  /-- `E5`: SBC $nn, R282. -/
  | sbcZp0 (zp : Byte)
  /-- `E6`: INC $nn, R290. -/
  | incZp0 (zp : Byte)
  /-- `E7`: ISC $nn, R356. -/
  | iscZp0 (zp : Byte)
  /-- `E9`: SBC #$nn, R282. -/
  | sbcImm (imm : Byte)
  /-- `EB`: SBC #$nn, R365. -/
  | sbcImmEB (imm : Byte)
  /-- `EC`: CPX $nnnn, R287. -/
  | cpxAbs (addr : Word)
  /-- `ED`: SBC $nnnn, R282. -/
  | sbcAbs (addr : Word)
  /-- `EE`: INC $nnnn, R290. -/
  | incAbs (addr : Word)
  /-- `EF`: ISC $nnnn, R356. -/
  | iscAbs (addr : Word)
  /-- `F0`: BEQ $nnnn, R324. -/
  | beq (rel : Byte)
  /-- `F1`: SBC ($nn),Y, R282. -/
  | sbcIzy (zp : Byte)
  /-- `F3`: ISC ($nn),Y, R356. -/
  | iscIzy (zp : Byte)
  /-- `F4`: NOP $nn,X, R364. -/
  | nopZpxF4 (zp : Byte)
  /-- `F5`: SBC $nn,X, R282. -/
  | sbcZpx (zp : Byte)
  /-- `F6`: INC $nn,X, R290. -/
  | incZpx (zp : Byte)
  /-- `F7`: ISC $nn,X, R356. -/
  | iscZpx (zp : Byte)
  /-- `F9`: SBC $nnnn,Y, R282. -/
  | sbcAby (addr : Word)
  /-- `FB`: ISC $nnnn,Y, R356. -/
  | iscAby (addr : Word)
  /-- `FC`: NOP $nnnn,X, R364. -/
  | nopAbxFC (addr : Word)
  /-- `FD`: SBC $nnnn,X, R282. -/
  | sbcAbx (addr : Word)
  /-- `FE`: INC $nnnn,X, R290. -/
  | incAbx (addr : Word)
  /-- `FF`: ISC $nnnn,X, R356. -/
  | iscAbx (addr : Word)
  /-- `00`: BRK, R313. -/
  | brk
  /-- `02`: KIL, R370. -/
  | kil02
  /-- `08`: PHP, R327. -/
  | php
  /-- `0A`: ASL A, R296. -/
  | aslAcc
  /-- `12`: KIL, R370. -/
  | kil12
  /-- `18`: CLC, R329. -/
  | clc
  /-- `1A`: NOP, R364. -/
  | nopImp1A
  /-- `22`: KIL, R370. -/
  | kil22
  /-- `28`: PLP, R325. -/
  | plp
  /-- `2A`: ROL A, R298. -/
  | rolAcc
  /-- `32`: KIL, R370. -/
  | kil32
  /-- `38`: SEC, R330. -/
  | sec
  /-- `3A`: NOP, R364. -/
  | nopImp3A
  /-- `40`: RTI, R315. -/
  | rti
  /-- `42`: KIL, R370. -/
  | kil42
  /-- `48`: PHA, R326. -/
  | pha
  /-- `4A`: LSR A, R297. -/
  | lsrAcc
  /-- `52`: KIL, R370. -/
  | kil52
  /-- `58`: CLI, R331. -/
  | cli
  /-- `5A`: NOP, R364. -/
  | nopImp5A
  /-- `60`: RTS, R312. -/
  | rts
  /-- `62`: KIL, R370. -/
  | kil62
  /-- `68`: PLA, R328. -/
  | pla
  /-- `6A`: ROR A, R299. -/
  | rorAcc
  /-- `72`: KIL, R370. -/
  | kil72
  /-- `78`: SEI, R332. -/
  | sei
  /-- `7A`: NOP, R364. -/
  | nopImp7A
  /-- `88`: DEY, R295. -/
  | dey
  /-- `8A`: TXA, R268. -/
  | txa
  /-- `92`: KIL, R370. -/
  | kil92
  /-- `98`: TYA, R269. -/
  | tya
  /-- `9A`: TXS, R271. -/
  | txs
  /-- `A8`: TAY, R267. -/
  | tay
  /-- `AA`: TAX, R266. -/
  | tax
  /-- `B2`: KIL, R370. -/
  | kilB2
  /-- `B8`: CLV, R335. -/
  | clv
  /-- `BA`: TSX, R270. -/
  | tsx
  /-- `C8`: INY, R293. -/
  | iny
  /-- `CA`: DEX, R294. -/
  | dex
  /-- `D2`: KIL, R370. -/
  | kilD2
  /-- `D8`: CLD, R333. -/
  | cld
  /-- `DA`: NOP, R364. -/
  | nopImpDA
  /-- `E8`: INX, R292. -/
  | inx
  /-- `EA`: NOP, R336. -/
  | nop
  /-- `F2`: KIL, R370. -/
  | kilF2
  /-- `F8`: SED, R334. -/
  | sed
  /-- `FA`: NOP, R364. -/
  | nopImpFA
  deriving DecidableEq, Repr

end Sys2Proof
end

