-- ==== Sys2Proof/Config.lean ====
section
/-! DEFINITION. What a launch fixes (the cartridge, the launch parameters) and the values the spec leaves
to the environment, as constants with no body. -/

namespace Sys2Proof

/-- `IO_READ(addr, k)` (20 R106): the byte a CPU read of `0x4000-0x4017` returns in system cycle `k`.
It has no body: every claim holds for every answer of the environment. -/
opaque Config.ioRead : Word → BitVec 64 → Byte

/-- `PALETTE_FILE` (61 R478): the (R, G, B) bytes of each of the 64 colour indices. Output only; it has no body. -/
opaque Config.paletteFile : BitVec 6 → BitVec 24

/-- What a byte of a store that lists nothing at that index reads as: the default of `MEM_POWERON` (10 R58).
DESIGN CHOICE, unsafe (log 3). -/
def Config.unlistedByte : Byte := 0#8

/-- Bytes of one PRG ROM bank (00 R8). -/
def Config.prgBankSize : Nat := 16384

/-- Bytes of one CHR ROM bank (00 R8). -/
def Config.chrBankSize : Nat := 8192

/-- The header's mirroring, `MIRROR` (00 R8). -/
inductive HeaderMirror where
  | horizontal | vertical | four
  deriving DecidableEq, Repr

/-- `SPRITE_SIZE_MODE` (61 R455). -/
inductive SpriteSizeMode where
  | fixed8 | ctrl
  deriving DecidableEq, Repr

/-- A cartridge as the file loader hands it over (00 R8). `rom` lists the bytes of the image by index, PRG
first and then CHR; an index it does not list holds 0 (log 13). -/
structure Cartridge where
  mapperId : Nat
  prgBanks : Nat
  chrBanks : Nat
  mirror   : HeaderMirror
  battery  : Bool
  rom      : List Host.Cell
  deriving DecidableEq, Repr

/-- The launch parameters that stay for the whole run (00 R11).
`IRQ_LINE(k)` (60 R382) is given as the level `irqRest` of every cycle not in `irqFlips`, and the opposite level
of the cycles listed in `irqFlips` (log 4). -/
structure Params where
  spriteSize : SpriteSizeMode
  irqRest    : Bool
  irqFlips   : List (BitVec 64)
  deriving DecidableEq, Repr

/-- The power-on contents the spec leaves open: `AXY_POWERON` (10 R36) and `MEM_POWERON` (10 R58), the latter as the
listed bytes of each store. -/
structure PowerOnValues where
  a       : Byte
  x       : Byte
  y       : Byte
  ram     : List Host.Cell
  vram    : List Host.Cell
  palette : List Host.Cell
  pattern : List Host.Cell
  oam     : List Host.Cell
  prgRam  : List Host.Cell
  deriving DecidableEq, Repr

end Sys2Proof
end

