-- ==== Sys2Proof/WellFormed.lean ====
section
/-! DEFINITION. Which terms are legal inputs of the model: instructions (all of them) and cartridges. -/

namespace Sys2Proof

/-- Every instruction is well formed: the argument of a constructor has exactly the bits of its operand bytes, and
no opcode is reserved (30 R190, R200), so there is nothing to check. -/
def Instr.wellFormed (_ : Instr) : Bool := true

/-- The mapper ID is one the hardware supports (00 R4, 21 R150). -/
def Cartridge.mapperOk (c : Cartridge) : Bool := c.mapperId == 0 || c.mapperId == 1

/-- There is at least one PRG bank (00 R8, 21 R150). -/
def Cartridge.prgOk (c : Cartridge) : Bool := decide (1 ≤ c.prgBanks)

/-- The length of the ROM image (00 R8, 21 R153). -/
def Cartridge.romSize (c : Cartridge) : Nat :=
  c.prgBanks * Config.prgBankSize + c.chrBanks * Config.chrBankSize

/-- Every listed ROM byte lies inside the image (00 R8). -/
def Cartridge.romOk (c : Cartridge) : Bool := c.rom.all fun cell => decide (cell.1 < c.romSize)

/-- A cartridge the hardware can be launched with and whose image fits its header. -/
def Cartridge.wellFormed (c : Cartridge) : Bool := c.mapperOk && c.prgOk && c.romOk

end Sys2Proof
end

