-- ==== Sys2Proof/Decode.lean ====
section
/-! DEFINITION. The opcode map of 30 R196: the addressing mode, base cycles and page-cross flag of every opcode byte,
the decoder (total on every opcode) and the encoder. -/

namespace Sys2Proof

/-- One entry of the opcode map (30 R196). -/
structure OpInfo where
  mode   : Mode
  cycles : Byte
  pen    : Bool
  deriving DecidableEq, Repr

/-- The instruction length of an addressing mode (30 R191). -/
def modeLength (m : Mode) : Nat :=
  match m with
  | .imp | .acc => 1
  | .imm | .zp0 | .zpx | .zpy | .izx | .izy | .rel => 2
  | .abs | .abx | .aby | .ind => 3

/-- Row `0x` of the opcode map (30 R196): mode, base cycles, page-cross flag. -/
def opRow0 : List OpInfo :=
  [⟨.imp, 7, false⟩, ⟨.izx, 6, false⟩, ⟨.imp, 2, false⟩, ⟨.izx, 8, false⟩,
   ⟨.zp0, 3, false⟩, ⟨.zp0, 3, false⟩, ⟨.zp0, 5, false⟩, ⟨.zp0, 5, false⟩,
   ⟨.imp, 3, false⟩, ⟨.imm, 2, false⟩, ⟨.acc, 2, false⟩, ⟨.imm, 2, false⟩,
   ⟨.abs, 4, false⟩, ⟨.abs, 4, false⟩, ⟨.abs, 6, false⟩, ⟨.abs, 6, false⟩]

/-- Row `1x` of the opcode map (30 R196): mode, base cycles, page-cross flag. -/
def opRow1 : List OpInfo :=
  [⟨.rel, 2, false⟩, ⟨.izy, 5, true⟩, ⟨.imp, 2, false⟩, ⟨.izy, 8, false⟩,
   ⟨.zpx, 4, false⟩, ⟨.zpx, 4, false⟩, ⟨.zpx, 6, false⟩, ⟨.zpx, 6, false⟩,
   ⟨.imp, 2, false⟩, ⟨.aby, 4, true⟩, ⟨.imp, 2, false⟩, ⟨.aby, 7, false⟩,
   ⟨.abx, 4, true⟩, ⟨.abx, 4, true⟩, ⟨.abx, 7, false⟩, ⟨.abx, 7, false⟩]

/-- Row `2x` of the opcode map (30 R196): mode, base cycles, page-cross flag. -/
def opRow2 : List OpInfo :=
  [⟨.abs, 6, false⟩, ⟨.izx, 6, false⟩, ⟨.imp, 2, false⟩, ⟨.izx, 8, false⟩,
   ⟨.zp0, 3, false⟩, ⟨.zp0, 3, false⟩, ⟨.zp0, 5, false⟩, ⟨.zp0, 5, false⟩,
   ⟨.imp, 4, false⟩, ⟨.imm, 2, false⟩, ⟨.acc, 2, false⟩, ⟨.imm, 2, false⟩,
   ⟨.abs, 4, false⟩, ⟨.abs, 4, false⟩, ⟨.abs, 6, false⟩, ⟨.abs, 6, false⟩]

/-- Row `3x` of the opcode map (30 R196): mode, base cycles, page-cross flag. -/
def opRow3 : List OpInfo :=
  [⟨.rel, 2, false⟩, ⟨.izy, 5, true⟩, ⟨.imp, 2, false⟩, ⟨.izy, 8, false⟩,
   ⟨.zpx, 4, false⟩, ⟨.zpx, 4, false⟩, ⟨.zpx, 6, false⟩, ⟨.zpx, 6, false⟩,
   ⟨.imp, 2, false⟩, ⟨.aby, 4, true⟩, ⟨.imp, 2, false⟩, ⟨.aby, 7, false⟩,
   ⟨.abx, 4, true⟩, ⟨.abx, 4, true⟩, ⟨.abx, 7, false⟩, ⟨.abx, 7, false⟩]

/-- Row `4x` of the opcode map (30 R196): mode, base cycles, page-cross flag. -/
def opRow4 : List OpInfo :=
  [⟨.imp, 6, false⟩, ⟨.izx, 6, false⟩, ⟨.imp, 2, false⟩, ⟨.izx, 8, false⟩,
   ⟨.zp0, 3, false⟩, ⟨.zp0, 3, false⟩, ⟨.zp0, 5, false⟩, ⟨.zp0, 5, false⟩,
   ⟨.imp, 3, false⟩, ⟨.imm, 2, false⟩, ⟨.acc, 2, false⟩, ⟨.imm, 2, false⟩,
   ⟨.abs, 3, false⟩, ⟨.abs, 4, false⟩, ⟨.abs, 6, false⟩, ⟨.abs, 6, false⟩]

/-- Row `5x` of the opcode map (30 R196): mode, base cycles, page-cross flag. -/
def opRow5 : List OpInfo :=
  [⟨.rel, 2, false⟩, ⟨.izy, 5, true⟩, ⟨.imp, 2, false⟩, ⟨.izy, 8, false⟩,
   ⟨.zpx, 4, false⟩, ⟨.zpx, 4, false⟩, ⟨.zpx, 6, false⟩, ⟨.zpx, 6, false⟩,
   ⟨.imp, 2, false⟩, ⟨.aby, 4, true⟩, ⟨.imp, 2, false⟩, ⟨.aby, 7, false⟩,
   ⟨.abx, 4, true⟩, ⟨.abx, 4, true⟩, ⟨.abx, 7, false⟩, ⟨.abx, 7, false⟩]

/-- Row `6x` of the opcode map (30 R196): mode, base cycles, page-cross flag. -/
def opRow6 : List OpInfo :=
  [⟨.imp, 6, false⟩, ⟨.izx, 6, false⟩, ⟨.imp, 2, false⟩, ⟨.izx, 8, false⟩,
   ⟨.zp0, 3, false⟩, ⟨.zp0, 3, false⟩, ⟨.zp0, 5, false⟩, ⟨.zp0, 5, false⟩,
   ⟨.imp, 4, false⟩, ⟨.imm, 2, false⟩, ⟨.acc, 2, false⟩, ⟨.imm, 2, false⟩,
   ⟨.ind, 5, false⟩, ⟨.abs, 4, false⟩, ⟨.abs, 6, false⟩, ⟨.abs, 6, false⟩]

/-- Row `7x` of the opcode map (30 R196): mode, base cycles, page-cross flag. -/
def opRow7 : List OpInfo :=
  [⟨.rel, 2, false⟩, ⟨.izy, 5, true⟩, ⟨.imp, 2, false⟩, ⟨.izy, 8, false⟩,
   ⟨.zpx, 4, false⟩, ⟨.zpx, 4, false⟩, ⟨.zpx, 6, false⟩, ⟨.zpx, 6, false⟩,
   ⟨.imp, 2, false⟩, ⟨.aby, 4, true⟩, ⟨.imp, 2, false⟩, ⟨.aby, 7, false⟩,
   ⟨.abx, 4, true⟩, ⟨.abx, 4, true⟩, ⟨.abx, 7, false⟩, ⟨.abx, 7, false⟩]

/-- Row `8x` of the opcode map (30 R196): mode, base cycles, page-cross flag. -/
def opRow8 : List OpInfo :=
  [⟨.imm, 2, false⟩, ⟨.izx, 6, false⟩, ⟨.imm, 2, false⟩, ⟨.izx, 6, false⟩,
   ⟨.zp0, 3, false⟩, ⟨.zp0, 3, false⟩, ⟨.zp0, 3, false⟩, ⟨.zp0, 3, false⟩,
   ⟨.imp, 2, false⟩, ⟨.imm, 2, false⟩, ⟨.imp, 2, false⟩, ⟨.imm, 2, false⟩,
   ⟨.abs, 4, false⟩, ⟨.abs, 4, false⟩, ⟨.abs, 4, false⟩, ⟨.abs, 4, false⟩]

/-- Row `9x` of the opcode map (30 R196): mode, base cycles, page-cross flag. -/
def opRow9 : List OpInfo :=
  [⟨.rel, 2, false⟩, ⟨.izy, 6, false⟩, ⟨.imp, 2, false⟩, ⟨.izy, 6, false⟩,
   ⟨.zpx, 4, false⟩, ⟨.zpx, 4, false⟩, ⟨.zpy, 4, false⟩, ⟨.zpy, 4, false⟩,
   ⟨.imp, 2, false⟩, ⟨.aby, 5, false⟩, ⟨.imp, 2, false⟩, ⟨.aby, 5, false⟩,
   ⟨.abx, 5, false⟩, ⟨.abx, 5, false⟩, ⟨.aby, 5, false⟩, ⟨.aby, 5, false⟩]

/-- Row `Ax` of the opcode map (30 R196): mode, base cycles, page-cross flag. -/
def opRowA : List OpInfo :=
  [⟨.imm, 2, false⟩, ⟨.izx, 6, false⟩, ⟨.imm, 2, false⟩, ⟨.izx, 6, false⟩,
   ⟨.zp0, 3, false⟩, ⟨.zp0, 3, false⟩, ⟨.zp0, 3, false⟩, ⟨.zp0, 3, false⟩,
   ⟨.imp, 2, false⟩, ⟨.imm, 2, false⟩, ⟨.imp, 2, false⟩, ⟨.imm, 2, false⟩,
   ⟨.abs, 4, false⟩, ⟨.abs, 4, false⟩, ⟨.abs, 4, false⟩, ⟨.abs, 4, false⟩]

/-- Row `Bx` of the opcode map (30 R196): mode, base cycles, page-cross flag. -/
def opRowB : List OpInfo :=
  [⟨.rel, 2, false⟩, ⟨.izy, 5, true⟩, ⟨.imp, 2, false⟩, ⟨.izy, 5, true⟩,
   ⟨.zpx, 4, false⟩, ⟨.zpx, 4, false⟩, ⟨.zpy, 4, false⟩, ⟨.zpy, 4, false⟩,
   ⟨.imp, 2, false⟩, ⟨.aby, 4, true⟩, ⟨.imp, 2, false⟩, ⟨.aby, 4, true⟩,
   ⟨.abx, 4, true⟩, ⟨.abx, 4, true⟩, ⟨.aby, 4, true⟩, ⟨.aby, 4, true⟩]

/-- Row `Cx` of the opcode map (30 R196): mode, base cycles, page-cross flag. -/
def opRowC : List OpInfo :=
  [⟨.imm, 2, false⟩, ⟨.izx, 6, false⟩, ⟨.imm, 2, false⟩, ⟨.izx, 8, false⟩,
   ⟨.zp0, 3, false⟩, ⟨.zp0, 3, false⟩, ⟨.zp0, 5, false⟩, ⟨.zp0, 5, false⟩,
   ⟨.imp, 2, false⟩, ⟨.imm, 2, false⟩, ⟨.imp, 2, false⟩, ⟨.imm, 2, false⟩,
   ⟨.abs, 4, false⟩, ⟨.abs, 4, false⟩, ⟨.abs, 6, false⟩, ⟨.abs, 6, false⟩]

/-- Row `Dx` of the opcode map (30 R196): mode, base cycles, page-cross flag. -/
def opRowD : List OpInfo :=
  [⟨.rel, 2, false⟩, ⟨.izy, 5, true⟩, ⟨.imp, 2, false⟩, ⟨.izy, 8, false⟩,
   ⟨.zpx, 4, false⟩, ⟨.zpx, 4, false⟩, ⟨.zpx, 6, false⟩, ⟨.zpx, 6, false⟩,
   ⟨.imp, 2, false⟩, ⟨.aby, 4, true⟩, ⟨.imp, 2, false⟩, ⟨.aby, 7, false⟩,
   ⟨.abx, 4, true⟩, ⟨.abx, 4, true⟩, ⟨.abx, 7, false⟩, ⟨.abx, 7, false⟩]

/-- Row `Ex` of the opcode map (30 R196): mode, base cycles, page-cross flag. -/
def opRowE : List OpInfo :=
  [⟨.imm, 2, false⟩, ⟨.izx, 6, false⟩, ⟨.imm, 2, false⟩, ⟨.izx, 8, false⟩,
   ⟨.zp0, 3, false⟩, ⟨.zp0, 3, false⟩, ⟨.zp0, 5, false⟩, ⟨.zp0, 5, false⟩,
   ⟨.imp, 2, false⟩, ⟨.imm, 2, false⟩, ⟨.imp, 2, false⟩, ⟨.imm, 2, false⟩,
   ⟨.abs, 4, false⟩, ⟨.abs, 4, false⟩, ⟨.abs, 6, false⟩, ⟨.abs, 6, false⟩]

/-- Row `Fx` of the opcode map (30 R196): mode, base cycles, page-cross flag. -/
def opRowF : List OpInfo :=
  [⟨.rel, 2, false⟩, ⟨.izy, 5, true⟩, ⟨.imp, 2, false⟩, ⟨.izy, 8, false⟩,
   ⟨.zpx, 4, false⟩, ⟨.zpx, 4, false⟩, ⟨.zpx, 6, false⟩, ⟨.zpx, 6, false⟩,
   ⟨.imp, 2, false⟩, ⟨.aby, 4, true⟩, ⟨.imp, 2, false⟩, ⟨.aby, 7, false⟩,
   ⟨.abx, 4, true⟩, ⟨.abx, 4, true⟩, ⟨.abx, 7, false⟩, ⟨.abx, 7, false⟩]

/-- The opcode map of 30 R196, by high nibble. -/
def opTable : List (List OpInfo) :=
  [opRow0, opRow1, opRow2, opRow3, opRow4, opRow5, opRow6, opRow7,
   opRow8, opRow9, opRowA, opRowB, opRowC, opRowD, opRowE, opRowF]

/-- `table(Opcode)` of 40 R226. The table has all 256 entries, so the default is never used. -/
def opInfo (op : Byte) : OpInfo :=
  (opTable.getD (op.toNat / 16) []).getD (op.toNat % 16) ⟨.imp, 2, false⟩

/-- The length of the instruction whose opcode byte is `op` (30 R192). -/
def opLength (op : Byte) : Nat := modeLength (opInfo op).mode

/-- How many operand bytes are read when the instruction is fetched: all of them, but for XAA (`8B`), whose
immediate byte is not read (44 R376, log 11). -/
def operandReads (op : Byte) : Nat := if op = 0x8B#8 then 0 else opLength op - 1

/-- A 16-bit operand from its bytes, low byte first (30 R195). -/
def wordOf (lo hi : Byte) : Word := hi ++ lo

/-- The low byte of a 16-bit operand. -/
def loByte (w : Word) : Byte := w.extractLsb' 0 8

/-- The high byte of a 16-bit operand. -/
def hiByte (w : Word) : Byte := w.extractLsb' 8 8

/-- Row `0x` of the opcode map as instructions; `b` and `c` are the operand bytes. -/
def decRow0 : List (Byte → Byte → Instr) :=
  [fun _ _ => .brk, fun b _ => .oraIzx b, fun _ _ => .kil02, fun b _ => .sloIzx b,
   fun b _ => .nopZp004 b, fun b _ => .oraZp0 b, fun b _ => .aslZp0 b, fun b _ => .sloZp0 b,
   fun _ _ => .php, fun b _ => .oraImm b, fun _ _ => .aslAcc, fun b _ => .ancImm0B b,
   fun b c => .nopAbs0C (wordOf b c), fun b c => .oraAbs (wordOf b c), fun b c => .aslAbs (wordOf b c), fun b c => .sloAbs (wordOf b c)]

/-- Row `1x` of the opcode map as instructions; `b` and `c` are the operand bytes. -/
def decRow1 : List (Byte → Byte → Instr) :=
  [fun b _ => .bpl b, fun b _ => .oraIzy b, fun _ _ => .kil12, fun b _ => .sloIzy b,
   fun b _ => .nopZpx14 b, fun b _ => .oraZpx b, fun b _ => .aslZpx b, fun b _ => .sloZpx b,
   fun _ _ => .clc, fun b c => .oraAby (wordOf b c), fun _ _ => .nopImp1A, fun b c => .sloAby (wordOf b c),
   fun b c => .nopAbx1C (wordOf b c), fun b c => .oraAbx (wordOf b c), fun b c => .aslAbx (wordOf b c), fun b c => .sloAbx (wordOf b c)]

/-- Row `2x` of the opcode map as instructions; `b` and `c` are the operand bytes. -/
def decRow2 : List (Byte → Byte → Instr) :=
  [fun b c => .jsrAbs (wordOf b c), fun b _ => .andIzx b, fun _ _ => .kil22, fun b _ => .rlaIzx b,
   fun b _ => .bitZp0 b, fun b _ => .andZp0 b, fun b _ => .rolZp0 b, fun b _ => .rlaZp0 b,
   fun _ _ => .plp, fun b _ => .andImm b, fun _ _ => .rolAcc, fun b _ => .ancImm2B b,
   fun b c => .bitAbs (wordOf b c), fun b c => .andAbs (wordOf b c), fun b c => .rolAbs (wordOf b c), fun b c => .rlaAbs (wordOf b c)]

/-- Row `3x` of the opcode map as instructions; `b` and `c` are the operand bytes. -/
def decRow3 : List (Byte → Byte → Instr) :=
  [fun b _ => .bmi b, fun b _ => .andIzy b, fun _ _ => .kil32, fun b _ => .rlaIzy b,
   fun b _ => .nopZpx34 b, fun b _ => .andZpx b, fun b _ => .rolZpx b, fun b _ => .rlaZpx b,
   fun _ _ => .sec, fun b c => .andAby (wordOf b c), fun _ _ => .nopImp3A, fun b c => .rlaAby (wordOf b c),
   fun b c => .nopAbx3C (wordOf b c), fun b c => .andAbx (wordOf b c), fun b c => .rolAbx (wordOf b c), fun b c => .rlaAbx (wordOf b c)]

/-- Row `4x` of the opcode map as instructions; `b` and `c` are the operand bytes. -/
def decRow4 : List (Byte → Byte → Instr) :=
  [fun _ _ => .rti, fun b _ => .eorIzx b, fun _ _ => .kil42, fun b _ => .sreIzx b,
   fun b _ => .nopZp044 b, fun b _ => .eorZp0 b, fun b _ => .lsrZp0 b, fun b _ => .sreZp0 b,
   fun _ _ => .pha, fun b _ => .eorImm b, fun _ _ => .lsrAcc, fun b _ => .alrImm b,
   fun b c => .jmpAbs (wordOf b c), fun b c => .eorAbs (wordOf b c), fun b c => .lsrAbs (wordOf b c), fun b c => .sreAbs (wordOf b c)]

/-- Row `5x` of the opcode map as instructions; `b` and `c` are the operand bytes. -/
def decRow5 : List (Byte → Byte → Instr) :=
  [fun b _ => .bvc b, fun b _ => .eorIzy b, fun _ _ => .kil52, fun b _ => .sreIzy b,
   fun b _ => .nopZpx54 b, fun b _ => .eorZpx b, fun b _ => .lsrZpx b, fun b _ => .sreZpx b,
   fun _ _ => .cli, fun b c => .eorAby (wordOf b c), fun _ _ => .nopImp5A, fun b c => .sreAby (wordOf b c),
   fun b c => .nopAbx5C (wordOf b c), fun b c => .eorAbx (wordOf b c), fun b c => .lsrAbx (wordOf b c), fun b c => .sreAbx (wordOf b c)]

/-- Row `6x` of the opcode map as instructions; `b` and `c` are the operand bytes. -/
def decRow6 : List (Byte → Byte → Instr) :=
  [fun _ _ => .rts, fun b _ => .adcIzx b, fun _ _ => .kil62, fun b _ => .rraIzx b,
   fun b _ => .nopZp064 b, fun b _ => .adcZp0 b, fun b _ => .rorZp0 b, fun b _ => .rraZp0 b,
   fun _ _ => .pla, fun b _ => .adcImm b, fun _ _ => .rorAcc, fun b _ => .arrImm b,
   fun b c => .jmpInd (wordOf b c), fun b c => .adcAbs (wordOf b c), fun b c => .rorAbs (wordOf b c), fun b c => .rraAbs (wordOf b c)]

/-- Row `7x` of the opcode map as instructions; `b` and `c` are the operand bytes. -/
def decRow7 : List (Byte → Byte → Instr) :=
  [fun b _ => .bvs b, fun b _ => .adcIzy b, fun _ _ => .kil72, fun b _ => .rraIzy b,
   fun b _ => .nopZpx74 b, fun b _ => .adcZpx b, fun b _ => .rorZpx b, fun b _ => .rraZpx b,
   fun _ _ => .sei, fun b c => .adcAby (wordOf b c), fun _ _ => .nopImp7A, fun b c => .rraAby (wordOf b c),
   fun b c => .nopAbx7C (wordOf b c), fun b c => .adcAbx (wordOf b c), fun b c => .rorAbx (wordOf b c), fun b c => .rraAbx (wordOf b c)]

/-- Row `8x` of the opcode map as instructions; `b` and `c` are the operand bytes. -/
def decRow8 : List (Byte → Byte → Instr) :=
  [fun b _ => .nopImm80 b, fun b _ => .staIzx b, fun b _ => .nopImm82 b, fun b _ => .saxIzx b,
   fun b _ => .styZp0 b, fun b _ => .staZp0 b, fun b _ => .stxZp0 b, fun b _ => .saxZp0 b,
   fun _ _ => .dey, fun b _ => .nopImm89 b, fun _ _ => .txa, fun b _ => .xaaImm b,
   fun b c => .styAbs (wordOf b c), fun b c => .staAbs (wordOf b c), fun b c => .stxAbs (wordOf b c), fun b c => .saxAbs (wordOf b c)]

/-- Row `9x` of the opcode map as instructions; `b` and `c` are the operand bytes. -/
def decRow9 : List (Byte → Byte → Instr) :=
  [fun b _ => .bcc b, fun b _ => .staIzy b, fun _ _ => .kil92, fun b _ => .ahxIzy b,
   fun b _ => .styZpx b, fun b _ => .staZpx b, fun b _ => .stxZpy b, fun b _ => .saxZpy b,
   fun _ _ => .tya, fun b c => .staAby (wordOf b c), fun _ _ => .txs, fun b c => .tasAby (wordOf b c),
   fun b c => .shyAbx (wordOf b c), fun b c => .staAbx (wordOf b c), fun b c => .shxAby (wordOf b c), fun b c => .ahxAby (wordOf b c)]

/-- Row `Ax` of the opcode map as instructions; `b` and `c` are the operand bytes. -/
def decRowA : List (Byte → Byte → Instr) :=
  [fun b _ => .ldyImm b, fun b _ => .ldaIzx b, fun b _ => .ldxImm b, fun b _ => .laxIzx b,
   fun b _ => .ldyZp0 b, fun b _ => .ldaZp0 b, fun b _ => .ldxZp0 b, fun b _ => .laxZp0 b,
   fun _ _ => .tay, fun b _ => .ldaImm b, fun _ _ => .tax, fun b _ => .laxImm b,
   fun b c => .ldyAbs (wordOf b c), fun b c => .ldaAbs (wordOf b c), fun b c => .ldxAbs (wordOf b c), fun b c => .laxAbs (wordOf b c)]

/-- Row `Bx` of the opcode map as instructions; `b` and `c` are the operand bytes. -/
def decRowB : List (Byte → Byte → Instr) :=
  [fun b _ => .bcs b, fun b _ => .ldaIzy b, fun _ _ => .kilB2, fun b _ => .laxIzy b,
   fun b _ => .ldyZpx b, fun b _ => .ldaZpx b, fun b _ => .ldxZpy b, fun b _ => .laxZpy b,
   fun _ _ => .clv, fun b c => .ldaAby (wordOf b c), fun _ _ => .tsx, fun b c => .lasAby (wordOf b c),
   fun b c => .ldyAbx (wordOf b c), fun b c => .ldaAbx (wordOf b c), fun b c => .ldxAby (wordOf b c), fun b c => .laxAby (wordOf b c)]

/-- Row `Cx` of the opcode map as instructions; `b` and `c` are the operand bytes. -/
def decRowC : List (Byte → Byte → Instr) :=
  [fun b _ => .cpyImm b, fun b _ => .cmpIzx b, fun b _ => .nopImmC2 b, fun b _ => .dcpIzx b,
   fun b _ => .cpyZp0 b, fun b _ => .cmpZp0 b, fun b _ => .decZp0 b, fun b _ => .dcpZp0 b,
   fun _ _ => .iny, fun b _ => .cmpImm b, fun _ _ => .dex, fun b _ => .axsImm b,
   fun b c => .cpyAbs (wordOf b c), fun b c => .cmpAbs (wordOf b c), fun b c => .decAbs (wordOf b c), fun b c => .dcpAbs (wordOf b c)]

/-- Row `Dx` of the opcode map as instructions; `b` and `c` are the operand bytes. -/
def decRowD : List (Byte → Byte → Instr) :=
  [fun b _ => .bne b, fun b _ => .cmpIzy b, fun _ _ => .kilD2, fun b _ => .dcpIzy b,
   fun b _ => .nopZpxD4 b, fun b _ => .cmpZpx b, fun b _ => .decZpx b, fun b _ => .dcpZpx b,
   fun _ _ => .cld, fun b c => .cmpAby (wordOf b c), fun _ _ => .nopImpDA, fun b c => .dcpAby (wordOf b c),
   fun b c => .nopAbxDC (wordOf b c), fun b c => .cmpAbx (wordOf b c), fun b c => .decAbx (wordOf b c), fun b c => .dcpAbx (wordOf b c)]

/-- Row `Ex` of the opcode map as instructions; `b` and `c` are the operand bytes. -/
def decRowE : List (Byte → Byte → Instr) :=
  [fun b _ => .cpxImm b, fun b _ => .sbcIzx b, fun b _ => .nopImmE2 b, fun b _ => .iscIzx b,
   fun b _ => .cpxZp0 b, fun b _ => .sbcZp0 b, fun b _ => .incZp0 b, fun b _ => .iscZp0 b,
   fun _ _ => .inx, fun b _ => .sbcImm b, fun _ _ => .nop, fun b _ => .sbcImmEB b,
   fun b c => .cpxAbs (wordOf b c), fun b c => .sbcAbs (wordOf b c), fun b c => .incAbs (wordOf b c), fun b c => .iscAbs (wordOf b c)]

/-- Row `Fx` of the opcode map as instructions; `b` and `c` are the operand bytes. -/
def decRowF : List (Byte → Byte → Instr) :=
  [fun b _ => .beq b, fun b _ => .sbcIzy b, fun _ _ => .kilF2, fun b _ => .iscIzy b,
   fun b _ => .nopZpxF4 b, fun b _ => .sbcZpx b, fun b _ => .incZpx b, fun b _ => .iscZpx b,
   fun _ _ => .sed, fun b c => .sbcAby (wordOf b c), fun _ _ => .nopImpFA, fun b c => .iscAby (wordOf b c),
   fun b c => .nopAbxFC (wordOf b c), fun b c => .sbcAbx (wordOf b c), fun b c => .incAbx (wordOf b c), fun b c => .iscAbx (wordOf b c)]

/-- The opcode map of 30 R196 as instructions, by high nibble. -/
def decTable : List (List (Byte → Byte → Instr)) :=
  [decRow0, decRow1, decRow2, decRow3, decRow4, decRow5, decRow6, decRow7,
   decRow8, decRow9, decRowA, decRowB, decRowC, decRowD, decRowE, decRowF]

/-- The instruction with opcode byte `op` and operand bytes `b`, `c` (those its length does not cover are
ignored). Every opcode byte is defined (30 R196, R200), so the default is never used. -/
def decodeBytes (op b c : Byte) : Instr :=
  ((decTable.getD (op.toNat / 16) []).getD (op.toNat % 16) (fun _ _ => .nop)) b c

/-- Why a byte list does not begin with a whole instruction. -/
inductive DecodeError where
  /-- The list is empty. -/
  | noOpcode
  /-- The list ends before the operand bytes of the opcode do. -/
  | missingOperand (op : Byte)
  deriving DecidableEq, Repr

/-- Decode the first instruction of a byte list and give the rest of the list (30 R190, R192). -/
def decode (bytes : List Byte) : Except DecodeError (Instr × List Byte) :=
  match bytes with
  | [] => .error .noOpcode
  | op :: rest =>
    match opLength op, rest with
    | 1, _ => .ok (decodeBytes op 0 0, rest)
    | 2, b :: rest' => .ok (decodeBytes op b 0, rest')
    | 3, b :: c :: rest' => .ok (decodeBytes op b c, rest')
    | _, _ => .error (.missingOperand op)

/-- The bytes of an instruction (30 R190, R195, R196). -/
def encode (i : Instr) : List Byte :=
  match i with
  | .brk => [0x00#8]
  | .oraIzx v => [0x01#8, v]
  | .kil02 => [0x02#8]
  | .sloIzx v => [0x03#8, v]
  | .nopZp004 v => [0x04#8, v]
  | .oraZp0 v => [0x05#8, v]
  | .aslZp0 v => [0x06#8, v]
  | .sloZp0 v => [0x07#8, v]
  | .php => [0x08#8]
  | .oraImm v => [0x09#8, v]
  | .aslAcc => [0x0A#8]
  | .ancImm0B v => [0x0B#8, v]
  | .nopAbs0C w => [0x0C#8, loByte w, hiByte w]
  | .oraAbs w => [0x0D#8, loByte w, hiByte w]
  | .aslAbs w => [0x0E#8, loByte w, hiByte w]
  | .sloAbs w => [0x0F#8, loByte w, hiByte w]
  | .bpl v => [0x10#8, v]
  | .oraIzy v => [0x11#8, v]
  | .kil12 => [0x12#8]
  | .sloIzy v => [0x13#8, v]
  | .nopZpx14 v => [0x14#8, v]
  | .oraZpx v => [0x15#8, v]
  | .aslZpx v => [0x16#8, v]
  | .sloZpx v => [0x17#8, v]
  | .clc => [0x18#8]
  | .oraAby w => [0x19#8, loByte w, hiByte w]
  | .nopImp1A => [0x1A#8]
  | .sloAby w => [0x1B#8, loByte w, hiByte w]
  | .nopAbx1C w => [0x1C#8, loByte w, hiByte w]
  | .oraAbx w => [0x1D#8, loByte w, hiByte w]
  | .aslAbx w => [0x1E#8, loByte w, hiByte w]
  | .sloAbx w => [0x1F#8, loByte w, hiByte w]
  | .jsrAbs w => [0x20#8, loByte w, hiByte w]
  | .andIzx v => [0x21#8, v]
  | .kil22 => [0x22#8]
  | .rlaIzx v => [0x23#8, v]
  | .bitZp0 v => [0x24#8, v]
  | .andZp0 v => [0x25#8, v]
  | .rolZp0 v => [0x26#8, v]
  | .rlaZp0 v => [0x27#8, v]
  | .plp => [0x28#8]
  | .andImm v => [0x29#8, v]
  | .rolAcc => [0x2A#8]
  | .ancImm2B v => [0x2B#8, v]
  | .bitAbs w => [0x2C#8, loByte w, hiByte w]
  | .andAbs w => [0x2D#8, loByte w, hiByte w]
  | .rolAbs w => [0x2E#8, loByte w, hiByte w]
  | .rlaAbs w => [0x2F#8, loByte w, hiByte w]
  | .bmi v => [0x30#8, v]
  | .andIzy v => [0x31#8, v]
  | .kil32 => [0x32#8]
  | .rlaIzy v => [0x33#8, v]
  | .nopZpx34 v => [0x34#8, v]
  | .andZpx v => [0x35#8, v]
  | .rolZpx v => [0x36#8, v]
  | .rlaZpx v => [0x37#8, v]
  | .sec => [0x38#8]
  | .andAby w => [0x39#8, loByte w, hiByte w]
  | .nopImp3A => [0x3A#8]
  | .rlaAby w => [0x3B#8, loByte w, hiByte w]
  | .nopAbx3C w => [0x3C#8, loByte w, hiByte w]
  | .andAbx w => [0x3D#8, loByte w, hiByte w]
  | .rolAbx w => [0x3E#8, loByte w, hiByte w]
  | .rlaAbx w => [0x3F#8, loByte w, hiByte w]
  | .rti => [0x40#8]
  | .eorIzx v => [0x41#8, v]
  | .kil42 => [0x42#8]
  | .sreIzx v => [0x43#8, v]
  | .nopZp044 v => [0x44#8, v]
  | .eorZp0 v => [0x45#8, v]
  | .lsrZp0 v => [0x46#8, v]
  | .sreZp0 v => [0x47#8, v]
  | .pha => [0x48#8]
  | .eorImm v => [0x49#8, v]
  | .lsrAcc => [0x4A#8]
  | .alrImm v => [0x4B#8, v]
  | .jmpAbs w => [0x4C#8, loByte w, hiByte w]
  | .eorAbs w => [0x4D#8, loByte w, hiByte w]
  | .lsrAbs w => [0x4E#8, loByte w, hiByte w]
  | .sreAbs w => [0x4F#8, loByte w, hiByte w]
  | .bvc v => [0x50#8, v]
  | .eorIzy v => [0x51#8, v]
  | .kil52 => [0x52#8]
  | .sreIzy v => [0x53#8, v]
  | .nopZpx54 v => [0x54#8, v]
  | .eorZpx v => [0x55#8, v]
  | .lsrZpx v => [0x56#8, v]
  | .sreZpx v => [0x57#8, v]
  | .cli => [0x58#8]
  | .eorAby w => [0x59#8, loByte w, hiByte w]
  | .nopImp5A => [0x5A#8]
  | .sreAby w => [0x5B#8, loByte w, hiByte w]
  | .nopAbx5C w => [0x5C#8, loByte w, hiByte w]
  | .eorAbx w => [0x5D#8, loByte w, hiByte w]
  | .lsrAbx w => [0x5E#8, loByte w, hiByte w]
  | .sreAbx w => [0x5F#8, loByte w, hiByte w]
  | .rts => [0x60#8]
  | .adcIzx v => [0x61#8, v]
  | .kil62 => [0x62#8]
  | .rraIzx v => [0x63#8, v]
  | .nopZp064 v => [0x64#8, v]
  | .adcZp0 v => [0x65#8, v]
  | .rorZp0 v => [0x66#8, v]
  | .rraZp0 v => [0x67#8, v]
  | .pla => [0x68#8]
  | .adcImm v => [0x69#8, v]
  | .rorAcc => [0x6A#8]
  | .arrImm v => [0x6B#8, v]
  | .jmpInd w => [0x6C#8, loByte w, hiByte w]
  | .adcAbs w => [0x6D#8, loByte w, hiByte w]
  | .rorAbs w => [0x6E#8, loByte w, hiByte w]
  | .rraAbs w => [0x6F#8, loByte w, hiByte w]
  | .bvs v => [0x70#8, v]
  | .adcIzy v => [0x71#8, v]
  | .kil72 => [0x72#8]
  | .rraIzy v => [0x73#8, v]
  | .nopZpx74 v => [0x74#8, v]
  | .adcZpx v => [0x75#8, v]
  | .rorZpx v => [0x76#8, v]
  | .rraZpx v => [0x77#8, v]
  | .sei => [0x78#8]
  | .adcAby w => [0x79#8, loByte w, hiByte w]
  | .nopImp7A => [0x7A#8]
  | .rraAby w => [0x7B#8, loByte w, hiByte w]
  | .nopAbx7C w => [0x7C#8, loByte w, hiByte w]
  | .adcAbx w => [0x7D#8, loByte w, hiByte w]
  | .rorAbx w => [0x7E#8, loByte w, hiByte w]
  | .rraAbx w => [0x7F#8, loByte w, hiByte w]
  | .nopImm80 v => [0x80#8, v]
  | .staIzx v => [0x81#8, v]
  | .nopImm82 v => [0x82#8, v]
  | .saxIzx v => [0x83#8, v]
  | .styZp0 v => [0x84#8, v]
  | .staZp0 v => [0x85#8, v]
  | .stxZp0 v => [0x86#8, v]
  | .saxZp0 v => [0x87#8, v]
  | .dey => [0x88#8]
  | .nopImm89 v => [0x89#8, v]
  | .txa => [0x8A#8]
  | .xaaImm v => [0x8B#8, v]
  | .styAbs w => [0x8C#8, loByte w, hiByte w]
  | .staAbs w => [0x8D#8, loByte w, hiByte w]
  | .stxAbs w => [0x8E#8, loByte w, hiByte w]
  | .saxAbs w => [0x8F#8, loByte w, hiByte w]
  | .bcc v => [0x90#8, v]
  | .staIzy v => [0x91#8, v]
  | .kil92 => [0x92#8]
  | .ahxIzy v => [0x93#8, v]
  | .styZpx v => [0x94#8, v]
  | .staZpx v => [0x95#8, v]
  | .stxZpy v => [0x96#8, v]
  | .saxZpy v => [0x97#8, v]
  | .tya => [0x98#8]
  | .staAby w => [0x99#8, loByte w, hiByte w]
  | .txs => [0x9A#8]
  | .tasAby w => [0x9B#8, loByte w, hiByte w]
  | .shyAbx w => [0x9C#8, loByte w, hiByte w]
  | .staAbx w => [0x9D#8, loByte w, hiByte w]
  | .shxAby w => [0x9E#8, loByte w, hiByte w]
  | .ahxAby w => [0x9F#8, loByte w, hiByte w]
  | .ldyImm v => [0xA0#8, v]
  | .ldaIzx v => [0xA1#8, v]
  | .ldxImm v => [0xA2#8, v]
  | .laxIzx v => [0xA3#8, v]
  | .ldyZp0 v => [0xA4#8, v]
  | .ldaZp0 v => [0xA5#8, v]
  | .ldxZp0 v => [0xA6#8, v]
  | .laxZp0 v => [0xA7#8, v]
  | .tay => [0xA8#8]
  | .ldaImm v => [0xA9#8, v]
  | .tax => [0xAA#8]
  | .laxImm v => [0xAB#8, v]
  | .ldyAbs w => [0xAC#8, loByte w, hiByte w]
  | .ldaAbs w => [0xAD#8, loByte w, hiByte w]
  | .ldxAbs w => [0xAE#8, loByte w, hiByte w]
  | .laxAbs w => [0xAF#8, loByte w, hiByte w]
  | .bcs v => [0xB0#8, v]
  | .ldaIzy v => [0xB1#8, v]
  | .kilB2 => [0xB2#8]
  | .laxIzy v => [0xB3#8, v]
  | .ldyZpx v => [0xB4#8, v]
  | .ldaZpx v => [0xB5#8, v]
  | .ldxZpy v => [0xB6#8, v]
  | .laxZpy v => [0xB7#8, v]
  | .clv => [0xB8#8]
  | .ldaAby w => [0xB9#8, loByte w, hiByte w]
  | .tsx => [0xBA#8]
  | .lasAby w => [0xBB#8, loByte w, hiByte w]
  | .ldyAbx w => [0xBC#8, loByte w, hiByte w]
  | .ldaAbx w => [0xBD#8, loByte w, hiByte w]
  | .ldxAby w => [0xBE#8, loByte w, hiByte w]
  | .laxAby w => [0xBF#8, loByte w, hiByte w]
  | .cpyImm v => [0xC0#8, v]
  | .cmpIzx v => [0xC1#8, v]
  | .nopImmC2 v => [0xC2#8, v]
  | .dcpIzx v => [0xC3#8, v]
  | .cpyZp0 v => [0xC4#8, v]
  | .cmpZp0 v => [0xC5#8, v]
  | .decZp0 v => [0xC6#8, v]
  | .dcpZp0 v => [0xC7#8, v]
  | .iny => [0xC8#8]
  | .cmpImm v => [0xC9#8, v]
  | .dex => [0xCA#8]
  | .axsImm v => [0xCB#8, v]
  | .cpyAbs w => [0xCC#8, loByte w, hiByte w]
  | .cmpAbs w => [0xCD#8, loByte w, hiByte w]
  | .decAbs w => [0xCE#8, loByte w, hiByte w]
  | .dcpAbs w => [0xCF#8, loByte w, hiByte w]
  | .bne v => [0xD0#8, v]
  | .cmpIzy v => [0xD1#8, v]
  | .kilD2 => [0xD2#8]
  | .dcpIzy v => [0xD3#8, v]
  | .nopZpxD4 v => [0xD4#8, v]
  | .cmpZpx v => [0xD5#8, v]
  | .decZpx v => [0xD6#8, v]
  | .dcpZpx v => [0xD7#8, v]
  | .cld => [0xD8#8]
  | .cmpAby w => [0xD9#8, loByte w, hiByte w]
  | .nopImpDA => [0xDA#8]
  | .dcpAby w => [0xDB#8, loByte w, hiByte w]
  | .nopAbxDC w => [0xDC#8, loByte w, hiByte w]
  | .cmpAbx w => [0xDD#8, loByte w, hiByte w]
  | .decAbx w => [0xDE#8, loByte w, hiByte w]
  | .dcpAbx w => [0xDF#8, loByte w, hiByte w]
  | .cpxImm v => [0xE0#8, v]
  | .sbcIzx v => [0xE1#8, v]
  | .nopImmE2 v => [0xE2#8, v]
  | .iscIzx v => [0xE3#8, v]
  | .cpxZp0 v => [0xE4#8, v]
  | .sbcZp0 v => [0xE5#8, v]
  | .incZp0 v => [0xE6#8, v]
  | .iscZp0 v => [0xE7#8, v]
  | .inx => [0xE8#8]
  | .sbcImm v => [0xE9#8, v]
  | .nop => [0xEA#8]
  | .sbcImmEB v => [0xEB#8, v]
  | .cpxAbs w => [0xEC#8, loByte w, hiByte w]
  | .sbcAbs w => [0xED#8, loByte w, hiByte w]
  | .incAbs w => [0xEE#8, loByte w, hiByte w]
  | .iscAbs w => [0xEF#8, loByte w, hiByte w]
  | .beq v => [0xF0#8, v]
  | .sbcIzy v => [0xF1#8, v]
  | .kilF2 => [0xF2#8]
  | .iscIzy v => [0xF3#8, v]
  | .nopZpxF4 v => [0xF4#8, v]
  | .sbcZpx v => [0xF5#8, v]
  | .incZpx v => [0xF6#8, v]
  | .iscZpx v => [0xF7#8, v]
  | .sed => [0xF8#8]
  | .sbcAby w => [0xF9#8, loByte w, hiByte w]
  | .nopImpFA => [0xFA#8]
  | .iscAby w => [0xFB#8, loByte w, hiByte w]
  | .nopAbxFC w => [0xFC#8, loByte w, hiByte w]
  | .sbcAbx w => [0xFD#8, loByte w, hiByte w]
  | .incAbx w => [0xFE#8, loByte w, hiByte w]
  | .iscAbx w => [0xFF#8, loByte w, hiByte w]

/-- The opcode byte of an instruction. -/
def opcodeOf (i : Instr) : Byte := (encode i).headD 0

/-- The instruction whose bits are `w`, numbered as spec/opcode_table.json numbers them: byte 0 is bits 7..0,
byte 1 bits 15..8, byte 2 bits 23..16. Bits at and above `nbits` are 0. -/
def decodeTableWord (nbits w : Nat) : Option Instr :=
  let v := w % 2 ^ nbits
  match decode [BitVec.ofNat 8 v, BitVec.ofNat 8 (v / 256), BitVec.ofNat 8 (v / 65536)] with
  | .ok (i, _) => some i
  | .error _ => none

end Sys2Proof
end

