-- ==== Sys2Proof/Machine/State.lean ====
section
/-! DEFINITION. The state of the NES core: every piece of state of spec/10_state.md, as plain data, and the state
right after power-on and reset. -/

namespace Sys2Proof.Machine

/-- A byte store: the bytes it lists by index, indices rising, none equal to what an unlisted index reads as
(`Config.unlistedByte`). `Memory.wf` says so. -/
abbrev Memory := List Host.Cell

/-- A clocked register: what readers see and what is staged for the next commit (10 R31). -/
structure Clocked where
  current : Byte
  new     : Byte
  deriving DecidableEq, Repr

/-- The CPU's clock phase: which half the next `CPU_Tick` call is (10 R42). -/
inductive Phase where
  | rise | fall
  deriving DecidableEq, Repr

/-- The CPU (10 R35-R43). -/
structure Cpu where
  a             : Byte
  x             : Byte
  y             : Byte
  s             : Byte
  p             : Byte
  pc            : Word
  opcode        : Byte
  effAddr       : Word
  mode          : Mode
  cyclesLeft    : Byte
  totalCycles   : BitVec 64
  instrCount    : BitVec 64
  isKilled      : Bool
  phase         : Phase
  nmiLinePrev   : Bool
  nmiEdgeDelay  : Bool
  nmiPending    : Bool
  irqLevelDelay : Bool
  irqAsserted   : Bool
  nmiDue        : Bool
  irqDue        : Bool
  deriving DecidableEq, Repr

/-- The sprite evaluation sub-machine's states NEW_SPRITE, COPY_SPRITE, OVERFLOW and END (10 R55). -/
inductive EvalState where
  | newSprite | copySprite | overflow | done
  deriving DecidableEq, Repr

/-- One sprite slot of the current line (10 R56): `SprPatLo[i]`, `SprPatHi[i]`, `SprAttr[i]`, `SprX[i]`. -/
structure SprSlot where
  patLo : Byte
  patHi : Byte
  attr  : Byte
  x     : Byte
  deriving DecidableEq, Repr

/-- The PPU (10 R44-R56). -/
structure Ppu where
  ctrl         : Clocked
  mask         : Clocked
  status       : Clocked
  oamAddrReg   : Clocked
  oamDataReg   : Clocked
  scrollReg    : Clocked
  dataReg      : Clocked
  oamAddr      : Byte
  v            : VAddr
  t            : VAddr
  x            : BitVec 3
  w            : Bool
  readBuffer   : Byte
  hCount       : Nat
  vCount       : Nat
  isEvenFrame  : Bool
  ppuPhase     : Nat
  bgPatLo      : BitVec 16
  bgPatHi      : BitVec 16
  bgAttLo      : BitVec 16
  bgAttHi      : BitVec 16
  nextTileId   : Byte
  nextTileAttr : BitVec 2
  nextTileLo   : Byte
  nextTileHi   : Byte
  oam          : Memory
  secOam       : List Byte
  evalState    : EvalState
  evalN        : Nat
  evalM        : Nat
  evalFound    : Nat
  evalLatch    : Byte
  spr0Next     : Bool
  sprites      : List SprSlot
  sprCount     : Nat
  spr0InLine   : Bool
  deriving DecidableEq, Repr

/-- The OAM DMA engine's states (10 R59). -/
inductive DmaState where
  | idle | waiting | running
  deriving DecidableEq, Repr

/-- The Bus (10 R57-R60). -/
structure Bus where
  ram          : Memory
  vram         : Memory
  palette      : Memory
  pattern      : Memory
  dmaState     : DmaState
  dmaBase      : Word
  dmaCount     : Nat
  dmaData      : Byte
  dmaReadPhase : Bool
  busCycle     : BitVec 64
  nmiLine      : Bool
  irqLine      : Bool
  deriving DecidableEq, Repr

/-- The two mappers in scope (00 R4). -/
inductive Mapper where
  | nrom | mmc1
  deriving DecidableEq, Repr

/-- The cartridge: what its header declares, its ROM image and its RAM and mapper registers (00 R8, 10 R61, R62).
NROM has no registers (10 R61): under `nrom` nothing reads or writes the five MMC1 registers. -/
structure Cart where
  mapper   : Mapper
  prgBanks : Nat
  chrBanks : Nat
  mirror   : HeaderMirror
  battery  : Bool
  rom      : Memory
  prgRam   : Memory
  shift    : BitVec 5
  control  : BitVec 5
  chrBank0 : BitVec 5
  chrBank1 : BitVec 5
  prgBank  : BitVec 5
  deriving DecidableEq, Repr

/-- An `IO_WRITE(addr, v, k)` event (20 R106). -/
structure IoWrite where
  addr  : Word
  val   : Byte
  cycle : BitVec 64
  deriving DecidableEq, Repr

/-- A pixel handed to the sink (61 R478); its colour is `Pixel.rgb`. -/
structure Pixel where
  x   : Nat
  y   : Nat
  idx : BitVec 6
  deriving DecidableEq, Repr

/-- What the core handed to the outside in the system cycle just run, oldest first. The model's own (log 6). -/
structure Outputs where
  ioWrites : List IoWrite
  pixels   : List Pixel
  deriving DecidableEq, Repr

/-- Why a step stops with a fault. There is none: no instruction of this hardware can fault and no access has an
address that does not exist (60 R380, 20 R108); the killed CPU is a state, not a fault (60 R393). Safe (log 17). -/
inductive Fault
  deriving DecidableEq, Repr

/-- Why a step, or a launch, is refused. -/
inductive Refusal where
  /-- An instruction whose arm of `exec` has no meaning yet. Raised by no arm: every instruction has its meaning. Safe. -/
  | notModelled (mnemonic : String)
  /-- A nametable access under FOUR-screen mirroring, raised by `ppuRead` and `ppuWrite`
  (20 R114, `refuse(four_screen_unmodelled)`). Safe. -/
  | fourScreenUnmodelled
  /-- A cartridge whose mapper ID is neither 0 nor 1, raised by `State.powerOn`
  (21 R150, `refuse(unsupported_mapper)`). Safe. -/
  | unsupportedMapper
  /-- A cartridge with no PRG bank, raised by `State.powerOn` (21 R150). Safe. -/
  | noPrgBanks
  deriving DecidableEq, Repr

/-- The whole machine. `refusal` is the mark that 00 R15's `refuse(reason)` puts on the state: an operation sets it
and the step that finds it set answers `refused` (log 14). -/
structure State where
  cpu     : Cpu
  ppu     : Ppu
  bus     : Bus
  cart    : Cart
  params  : Params
  out     : Outputs
  refusal : Option Refusal
  deriving DecidableEq, Repr

/-- What an instruction, an interrupt sequence, a system cycle or a step answers. -/
abbrev Result := Host.Outcome State Fault Refusal

/-- A clocked register with both halves 0 (10 R31). -/
def Clocked.zero : Clocked := ⟨0#8, 0#8⟩

/-- An empty sprite slot (10 R56). -/
def SprSlot.zero : SprSlot := ⟨0#8, 0#8, 0#8, 0#8⟩

/-- The CPU after a reset, its PC not yet loaded from the vector (70 R500), with A, X and Y as given. -/
def Cpu.afterReset (a x y : Byte) (pc : Word) : Cpu :=
  { a := a, x := x, y := y, s := 0xFD#8, p := 0x24#8, pc := pc,
    opcode := 0#8, effAddr := 0#16, mode := .imp, cyclesLeft := 7#8, totalCycles := 0#64, instrCount := 0#64,
    isKilled := false, phase := .rise,
    nmiLinePrev := false, nmiEdgeDelay := false, nmiPending := false, irqLevelDelay := false,
    irqAsserted := false, nmiDue := false, irqDue := false }

/-- The PPU after a reset (70 R501), with what a reset keeps as given: Status, V and primary OAM. -/
def Ppu.afterReset (status : Clocked) (v : VAddr) (oam : Memory) : Ppu :=
  { ctrl := .zero, mask := .zero, status := status,
    oamAddrReg := .zero, oamDataReg := .zero, scrollReg := .zero, dataReg := .zero,
    oamAddr := 0#8, v := v, t := 0#15, x := 0#3, w := false, readBuffer := 0#8,
    hCount := 0, vCount := 261, isEvenFrame := true, ppuPhase := 0,
    bgPatLo := 0#16, bgPatHi := 0#16, bgAttLo := 0#16, bgAttHi := 0#16,
    nextTileId := 0#8, nextTileAttr := 0#2, nextTileLo := 0#8, nextTileHi := 0#8,
    oam := oam, secOam := List.replicate 32 0xFF#8,
    evalState := .done, evalN := 0, evalM := 0, evalFound := 0, evalLatch := 0#8, spr0Next := false,
    sprites := List.replicate 8 SprSlot.zero, sprCount := 0, spr0InLine := false }

/-- The Bus at power-on (10 R57-R60), with the contents of its stores as given. -/
def Bus.powerOn (ram vram palette pattern : Memory) : Bus :=
  { ram := ram, vram := vram, palette := palette, pattern := pattern,
    dmaState := .idle, dmaBase := 0#16, dmaCount := 0, dmaData := 0#8, dmaReadPhase := true,
    busCycle := 0#64, nmiLine := false, irqLine := false }

/-- The value of MMC1's Control at power-on: `0x0C | m` (10 R62, 21 R171). -/
def Cart.powerOnControl (m : HeaderMirror) : BitVec 5 :=
  match m with
  | .vertical => 0x0E#5
  | .horizontal | .four => 0x0F#5

/-- The cartridge of `State.reset`: NROM, one PRG bank, no CHR bank, horizontal mirroring, every ROM byte 0, that is,
no program (log 1). -/
def Cart.blank : Cart :=
  { mapper := .nrom, prgBanks := 1, chrBanks := 0, mirror := .horizontal, battery := false, rom := [], prgRam := [],
    shift := 0x10#5, control := Cart.powerOnControl .horizontal, chrBank0 := 0#5, chrBank1 := 0#5, prgBank := 0#5 }

/-- The launch parameters at the spec's defaults (70 R524, 60 R382; log 4, log 8). -/
def defaultParams : Params := { spriteSize := .fixed8, irqRest := false, irqFlips := [] }

/-- The machine right after power-on and the reset that follows it (70 R503, R504), on the cartridge `Cart.blank`.
The PC is the reset vector's value, `Read16(0xFFFC) = 0x0000` on a ROM whose bytes are all 0.
`Laws.reset_is_power_on` ties it to `State.powerOn`. -/
def State.reset : State :=
  { cpu := Cpu.afterReset 0#8 0#8 0#8 0x0000#16,
    ppu := Ppu.afterReset .zero 0#15 [],
    bus := Bus.powerOn [] [] [] [],
    cart := Cart.blank,
    params := defaultParams,
    out := ⟨[], []⟩,
    refusal := none }

end Sys2Proof.Machine
end

