-- ==== Sys2Proof/Machine/Memory.lean ====
section
/-! DEFINITION. Byte stores and clocked registers: the operations over them. -/

namespace Sys2Proof.Machine

/-- The byte of a store at index `i`. -/
def Memory.read (m : Memory) (i : Nat) : Byte :=
  match m with
  | [] => Config.unlistedByte
  | (j, v) :: rest => if j = i then v else Memory.read rest i

/-- Put `v` at index `i`, indices rising, without asking whether `v` needs to be listed. -/
def Memory.insert (m : Memory) (i : Nat) (v : Byte) : Memory :=
  match m with
  | [] => [(i, v)]
  | (j, u) :: rest =>
    if i < j then (i, v) :: (j, u) :: rest
    else if i = j then (i, v) :: rest
    else (j, u) :: Memory.insert rest i v

/-- Take index `i` off the list. -/
def Memory.erase (m : Memory) (i : Nat) : Memory :=
  match m with
  | [] => []
  | (j, u) :: rest => if j = i then rest else (j, u) :: Memory.erase rest i

/-- Write `v` at index `i`: writing what an unlisted index reads as takes the index off the list. -/
def Memory.write (m : Memory) (i : Nat) (v : Byte) : Memory :=
  if v = Config.unlistedByte then Memory.erase m i else Memory.insert m i v

/-- The canonical form: indices strictly rising, and no byte listed that an unlisted index reads as. -/
abbrev Memory.wf (m : Memory) : Prop :=
  m.Pairwise (fun c d => c.1 < d.1) ∧ ∀ c ∈ m, c.2 ≠ Config.unlistedByte

/-- Every listed index is below `n`. -/
abbrev Memory.within (m : Memory) (n : Nat) : Prop := ∀ c ∈ m, c.1 < n

/-- A store with the bytes of a list of cells, in canonical form: later cells overwrite earlier ones. -/
def Memory.ofCells (cells : List Host.Cell) : Memory :=
  cells.foldl (fun m c => Memory.write m c.1 c.2) []

/-- `write(v)` (10 R31): stage `v`. -/
def Clocked.write (r : Clocked) (v : Byte) : Clocked := { r with new := v }

/-- `read()` (10 R31). -/
def Clocked.read (r : Clocked) : Byte := r.current

/-- `clock()` (10 R31): commit what is staged. -/
def Clocked.clock (r : Clocked) : Clocked := { r with current := r.new }

/-- `reset()` (10 R31): both halves 0. -/
def Clocked.reset (_ : Clocked) : Clocked := .zero

/-- `writeImmediate(v)` (10 R31): stage and commit at once. -/
def Clocked.writeImmediate (_ : Clocked) (v : Byte) : Clocked := ⟨v, v⟩

/-- `test(b)` (10 R32): reads the current half. -/
def Clocked.test (r : Clocked) (b : Nat) : Bool := r.current.getLsbD b

/-- `set(b)` (10 R32): acts on the staged half. -/
def Clocked.set (r : Clocked) (b : Nat) : Clocked := { r with new := r.new ||| (1#8 <<< b) }

/-- `clear(b)` (10 R32): acts on the staged half. -/
def Clocked.clear (r : Clocked) (b : Nat) : Clocked := { r with new := r.new &&& ~~~(1#8 <<< b) }

end Sys2Proof.Machine
end

