-- ==== Sys2Proof/Machine/Mapper.lean ====
section
/-! DEFINITION. The cartridge mappers: the hook contract, NROM and MMC1 (spec/21_mappers.md). -/

namespace Sys2Proof.Machine

/-- `PRG_SIZE` (21 R153). -/
def prgSize (c : Cart) : Nat := c.prgBanks * Config.prgBankSize

/-- `CHR_SIZE` (21 R153). -/
def chrSize (c : Cart) : Nat := c.chrBanks * Config.chrBankSize

/-- PRG byte `j` (21 R153). -/
def prgByte (c : Cart) (j : Nat) : Byte := Memory.read c.rom j

/-- CHR byte `j`: the CHR bytes follow the PRG bytes (21 R153). -/
def chrByte (c : Cart) (j : Nat) : Byte := Memory.read c.rom (prgSize c + j)

/-- The PRG ROM offset NROM reads for `addr ≥ 0x8000` (21 R160). -/
def nromPrgOffset (c : Cart) (addr : Word) : Nat :=
  if c.prgBanks = 1 then ((addr - 0x8000#16) &&& 0x3FFF#16).toNat else ((addr - 0x8000#16) &&& 0x7FFF#16).toNat

/-- MMC1's PRG mode, `Control[3:2]` (21 R171). -/
def mmc1PrgMode (c : Cart) : BitVec 2 := c.control.extractLsb' 2 2

/-- MMC1's CHR mode, `Control[4]` (21 R171). -/
def mmc1ChrMode (c : Cart) : Bool := c.control.getLsbD 4

/-- The PRG ROM offset MMC1 reads for `addr ≥ 0x8000`, before it is reduced modulo the size (21 R172). -/
def mmc1PrgRaw (c : Cart) (addr : Word) : Nat :=
  let h := (addr - 0x8000#16).toNat
  match mmc1PrgMode c with
  | 0#2 | 1#2 => (c.prgBank &&& 0x0E#5).toNat * Config.prgBankSize + h
  | 2#2 => if addr < 0xC000#16 then h else (c.prgBank &&& 0x0F#5).toNat * Config.prgBankSize + (h - 0x4000)
  | _ =>
    if addr < 0xC000#16 then (c.prgBank &&& 0x0F#5).toNat * Config.prgBankSize + h
    else (c.prgBanks - 1) * Config.prgBankSize + (h - 0x4000)

/-- The PRG ROM offset MMC1 reads for `addr ≥ 0x8000` (21 R172, R173). -/
def mmc1PrgOffset (c : Cart) (addr : Word) : Nat := mmc1PrgRaw c addr % prgSize c

/-- The CHR ROM offset MMC1 reads for `a < 0x2000` (21 R173, R174). -/
def mmc1ChrOffset (c : Cart) (a : PpuAddr) : Nat :=
  let off :=
    if mmc1ChrMode c then
      if a < 0x1000#14 then c.chrBank0.toNat * 4096 + a.toNat
      else c.chrBank1.toNat * 4096 + (a.toNat - 0x1000)
    else (c.chrBank0 &&& 0x1E#5).toNat * 4096 + a.toNat
  off % chrSize c

/-- The PRG ROM offset a CPU read of `addr ≥ 0x8000` reaches (21 R160, R172). -/
def prgOffset (c : Cart) (addr : Word) : Nat :=
  match c.mapper with
  | .nrom => nromPrgOffset c addr
  | .mmc1 => mmc1PrgOffset c addr

/-- The PRG RAM index of an address in `0x6000-0x7FFF` (21 R160, R177). -/
def prgRamIndex (addr : Word) : Nat := (addr - 0x6000#16).toNat

/-- The hook `ReadFromCpu(addr)`: the byte if the mapper claims the access (21 R151, R160, R172, R177). -/
def mapperReadCpu (c : Cart) (addr : Word) : Option Byte :=
  if addr < 0x6000#16 then none
  else if addr < 0x8000#16 then some (Memory.read c.prgRam (prgRamIndex addr))
  else some (prgByte c (prgOffset c addr))

/-- MMC1's commit of a completed value into the register that `addr[14:13]` selects (21 R170). -/
def mmc1Commit (c : Cart) (addr : Word) (v : BitVec 5) : Cart :=
  match addr.extractLsb' 13 2 with
  | 0#2 => { c with control := v }
  | 1#2 => { c with chrBank0 := v }
  | 2#2 => { c with chrBank1 := v }
  | _ => { c with prgBank := v }

/-- The shift register after one data bit: `(Shift >> 1) | (v[0] << 4)` (21 R170). -/
def mmc1ShiftIn (sh : BitVec 5) (v : Byte) : BitVec 5 :=
  (sh >>> 1) ||| (if v.getLsbD 0 then 0x10#5 else 0#5)

/-- MMC1's serial write (21 R170). -/
def mmc1Serial (c : Cart) (addr : Word) (v : Byte) : Cart :=
  if v.getLsbD 7 then { c with shift := 0x10#5, control := c.control ||| 0x0C#5 }
  else if c.shift.getLsbD 0 then { mmc1Commit c addr (mmc1ShiftIn c.shift v) with shift := 0x10#5 }
  else { c with shift := mmc1ShiftIn c.shift v }

/-- The hook `WriteFromCpu(addr, v)`: the cartridge afterwards if the mapper claims the access
(21 R151, R161, R170, R177). -/
def mapperWriteCpu (c : Cart) (addr : Word) (v : Byte) : Option Cart :=
  if addr < 0x6000#16 then none
  else if addr < 0x8000#16 then some { c with prgRam := Memory.write c.prgRam (prgRamIndex addr) v }
  else
    match c.mapper with
    | .nrom => some c
    | .mmc1 => some (mmc1Serial c addr v)

/-- The hooks on the PPU side claim the pattern region when there is CHR ROM (21 R162, R163, R174, R175). -/
def mapperClaimsPpu (c : Cart) (a : PpuAddr) : Bool := decide (0 < c.chrBanks) && decide (a < 0x2000#14)

/-- The hook `ReadFromPpu(a)` (21 R162, R174). -/
def mapperReadPpu (c : Cart) (a : PpuAddr) : Option Byte :=
  if mapperClaimsPpu c a then
    some (chrByte c (match c.mapper with
      | .nrom => a.toNat
      | .mmc1 => mmc1ChrOffset c a))
  else none

/-- The mirror modes the Bus's resolver reads (10 R63). -/
inductive MirrorMode where
  | horizontal | vertical | single (page : Nat) | four
  deriving DecidableEq, Repr

/-- `MirrorMode` (10 R63): the header's under NROM (21 R164), a function of Control under MMC1 (21 R171). -/
def mirrorMode (c : Cart) : MirrorMode :=
  match c.mapper with
  | .nrom =>
    match c.mirror with
    | .horizontal => .horizontal
    | .vertical => .vertical
    | .four => .four
  | .mmc1 =>
    match c.control.extractLsb' 0 2 with
    | 0#2 => .single 0
    | 1#2 => .single 1
    | 2#2 => .vertical
    | _ => .horizontal

end Sys2Proof.Machine
end

