-- ==== Sys2Proof/Machine/PpuSpace.lean ====
section
/-! DEFINITION. The Bus's PPU-space decoder: pattern region, nametables, palette (20 R109-R116). -/

namespace Sys2Proof.Machine

/-- The physical nametable page of logical nametable `n` (20 R113); none under FOUR (20 R114). -/
def nametablePage (m : MirrorMode) (n : Nat) : Option Nat :=
  match m with
  | .horizontal => some (n / 2)
  | .vertical => some (n % 2)
  | .single p => some p
  | .four => none

/-- The VRAM index of a nametable address (20 R111). -/
def vramIndex (c : Cart) (a : PpuAddr) : Option Nat :=
  (nametablePage (mirrorMode c) (a.toNat / 0x400 % 4)).map fun page => page * 0x400 + a.toNat % 0x400

/-- The palette index of an address in `0x3F00-0x3FFF`, aliases resolved (20 R115). -/
def paletteIndex (a : PpuAddr) : Nat :=
  let i := a.toNat % 0x20
  if i = 0x10 ∨ i = 0x14 ∨ i = 0x18 ∨ i = 0x1C then i - 0x10 else i

/-- Mark the state refused (00 R15). -/
def State.refuse (s : State) (r : Refusal) : State := { s with refusal := some r }

/-- `PpuRead(a)` (20 R109): the mapper first, then pattern store, nametables, palette. Under FOUR a nametable
access refuses (20 R114). -/
def ppuRead (s : State) (a : PpuAddr) : Byte × State :=
  match mapperReadPpu s.cart a with
  | some b => (b, s)
  | none =>
    if a < 0x2000#14 then (Memory.read s.bus.pattern a.toNat, s)
    else if a < 0x3F00#14 then
      match vramIndex s.cart a with
      | some i => (Memory.read s.bus.vram i, s)
      | none => (0#8, s.refuse .fourScreenUnmodelled)
    else (Memory.read s.bus.palette (paletteIndex a), s)

/-- `PpuWrite(a, v)` (20 R109). A write that the mapper claims is to CHR ROM and has no effect (21 R163, R174). -/
def ppuWrite (s : State) (a : PpuAddr) (v : Byte) : State :=
  if mapperClaimsPpu s.cart a then s
  else if a < 0x2000#14 then { s with bus := { s.bus with pattern := Memory.write s.bus.pattern a.toNat v } }
  else if a < 0x3F00#14 then
    match vramIndex s.cart a with
    | some i => { s with bus := { s.bus with vram := Memory.write s.bus.vram i v } }
    | none => s.refuse .fourScreenUnmodelled
  else { s with bus := { s.bus with palette := Memory.write s.bus.palette (paletteIndex a) v } }

end Sys2Proof.Machine
end

