-- ==== Sys2Proof/Machine/PpuRegs.lean ====
section
/-! DEFINITION. The PPU's CPU-facing registers and the commit of its clocked registers (61 R420, R428-R437). -/

namespace Sys2Proof.Machine

/-- Replace the PPU. -/
def State.setPpu (s : State) (p : Ppu) : State := { s with ppu := p }

/-- `R`, rendering enabled: `Mask.current[3] | Mask.current[4]` (61 R424). -/
def renderingEnabled (p : Ppu) : Bool := p.mask.test 3 || p.mask.test 4

/-- The VRAM address increment (61 R429). -/
def vramInc (p : Ppu) : VAddr := if p.ctrl.test 2 then 32#15 else 1#15

/-- `V <- (V + inc) mod 2^15` (61 R429). -/
def Ppu.advanceV (p : Ppu) : Ppu := { p with v := p.v + vramInc p }

/-- `V & 0x3FFF`, the PPU-space address V names. -/
def Ppu.vAddr (p : Ppu) : PpuAddr := p.v.setWidth 14

/-- A read of `0x2002` (61 R431). -/
def statusRead (s : State) : Byte × State :=
  (s.ppu.status.current &&& 0xE0#8, s.setPpu { s.ppu with status := s.ppu.status.clear 7, w := false })

/-- A read of `0x2004` (61 R432). -/
def oamDataRead (s : State) : Byte := Memory.read s.ppu.oam s.ppu.oamAddr.toNat

/-- A read of `0x2007` (61 R433): buffered, but immediate in the palette, whose read refills the buffer from the
nametable beneath. -/
def dataRead (s : State) : Byte × State :=
  let a := s.ppu.vAddr
  if 0x3F00#14 ≤ a then
    let pal := ppuRead s a
    let below := ppuRead pal.2 (a - 0x1000#14)
    (pal.1, below.2.setPpu { below.2.ppu with readBuffer := below.1 }.advanceV)
  else
    let r := ppuRead s a
    (s.ppu.readBuffer, r.2.setPpu { r.2.ppu with readBuffer := r.1 }.advanceV)

/-- `PPU_CpuRead(r)` (61 R430): the write-only registers read 0 (61 R437). -/
def ppuCpuRead (s : State) (r : BitVec 3) : Byte × State :=
  match r with
  | 2#3 => statusRead s
  | 4#3 => (oamDataRead s, s)
  | 7#3 => dataRead s
  | _ => (0#8, s)

/-- T after a write of `v` to `0x2000`: `T[11:10] <- v[1:0]` (61 R428). -/
def ctrlWriteT (t : VAddr) (v : Byte) : VAddr :=
  (t &&& ~~~0x0C00#15) ||| ((v &&& 0x03#8).setWidth 15 <<< 10)

/-- The scroll write (61 R434). -/
def scrollWrite (p : Ppu) (v : Byte) : Ppu :=
  if p.w then
    { p with
      t := (p.t &&& ~~~0x73E0#15) ||| ((v &&& 7#8).setWidth 15 <<< 12) ||| ((v >>> 3).setWidth 15 <<< 5)
      w := false }
  else
    { p with
      t := (p.t &&& ~~~0x001F#15) ||| (v >>> 3).setWidth 15
      x := v.setWidth 3
      w := true }

/-- T after the second write of a pair to `0x2006` (61 R435). -/
def addrWriteLow (t : VAddr) (v : Byte) : VAddr := (t &&& 0x7F00#15) ||| v.setWidth 15

/-- The address write (61 R435). -/
def addrWrite (p : Ppu) (v : Byte) : Ppu :=
  if p.w then { p with t := addrWriteLow p.t v, v := addrWriteLow p.t v, w := false }
  else { p with t := (p.t &&& 0x00FF#15) ||| ((v &&& 0x3F#8).setWidth 15 <<< 8), w := true }

/-- The OAM data write (61 R428). -/
def oamDataWrite (p : Ppu) (v : Byte) : Ppu :=
  { p with
    oam := Memory.write p.oam p.oamAddr.toNat v
    oamAddr := p.oamAddr + 1#8
    oamDataReg := p.oamDataReg.write v }

/-- The data write (61 R436), with its behaviour-free copy (61 R428). -/
def dataWrite (s : State) (v : Byte) : State :=
  let s1 := ppuWrite s s.ppu.vAddr v
  s1.setPpu { s1.ppu with dataReg := s1.ppu.dataReg.write v }.advanceV

/-- `PPU_CpuWrite(r, v)` (61 R428). -/
def ppuCpuWrite (s : State) (r : BitVec 3) (v : Byte) : State :=
  match r with
  | 0#3 => s.setPpu { s.ppu with ctrl := s.ppu.ctrl.write v, t := ctrlWriteT s.ppu.t v }
  | 1#3 => s.setPpu { s.ppu with mask := s.ppu.mask.write v }
  | 2#3 => s
  | 3#3 => s.setPpu { s.ppu with oamAddr := v, oamAddrReg := s.ppu.oamAddrReg.write v }
  | 4#3 => s.setPpu (oamDataWrite s.ppu v)
  | 5#3 => s.setPpu { scrollWrite s.ppu v with scrollReg := s.ppu.scrollReg.write v }
  | 6#3 => s.setPpu (addrWrite s.ppu v)
  | _ => dataWrite s v

/-- Commit every clocked register (61 R420). -/
def Ppu.commit (p : Ppu) : Ppu :=
  { p with
    ctrl := p.ctrl.clock
    mask := p.mask.clock
    status := p.status.clock
    oamAddrReg := p.oamAddrReg.clock
    oamDataReg := p.oamDataReg.clock
    scrollReg := p.scrollReg.clock
    dataReg := p.dataReg.clock }

/-- `PPU_ClockRegisters()` (61 R420): commits only at `PpuPhase == 1`. -/
def ppuClockRegisters (p : Ppu) : Ppu := if p.ppuPhase = 1 then p.commit else p

end Sys2Proof.Machine
end

