-- ==== Sys2Proof/Machine/Bus.lean ====
section
/-! DEFINITION. The Bus's CPU-space decoder, the external IO window and the OAM DMA trigger (20 R101-R108, R117). -/

namespace Sys2Proof.Machine

/-- The RAM index of an address below `0x2000` (20 R101). -/
def ramIndex (addr : Word) : Nat := (addr &&& 0x07FF#16).toNat

/-- The PPU register an address in `0x2000-0x3FFF` reaches (20 R101, R104). -/
def ppuRegOf (addr : Word) : BitVec 3 := addr.setWidth 3

/-- `ReadFromCPU(addr)` (20 R101): the byte and the state after the read's side effects (20 R126). -/
def memRead (s : State) (addr : Word) : Byte × State :=
  match mapperReadCpu s.cart addr with
  | some b => (b, s)
  | none =>
    if addr < 0x2000#16 then (Memory.read s.bus.ram (ramIndex addr), s)
    else if addr < 0x4000#16 then ppuCpuRead s (ppuRegOf addr)
    else if addr < 0x4018#16 then (Config.ioRead addr s.bus.busCycle, s)
    else (0#8, s)

/-- The byte a CPU read of `addr` would return now, without the read's side effects. -/
def peek (s : State) (addr : Word) : Byte := (memRead s addr).1

/-- The DMA trigger: a CPU write of page `v` to `0x4014` (20 R117). -/
def dmaTrigger (b : Bus) (v : Byte) : Bus :=
  { b with dmaState := .waiting, dmaBase := v ++ 0#8, dmaCount := 0, dmaReadPhase := true }

/-- An `IO_WRITE(addr, v, BusCycle)` event (20 R106): it changes no state of the spec. -/
def ioWrite (s : State) (addr : Word) (v : Byte) : State :=
  { s with out := { s.out with ioWrites := s.out.ioWrites ++ [⟨addr, v, s.bus.busCycle⟩] } }

/-- `WriteFromCPU(addr, v)` (20 R102). -/
def memWrite (s : State) (addr : Word) (v : Byte) : State :=
  match mapperWriteCpu s.cart addr v with
  | some c => { s with cart := c }
  | none =>
    if addr < 0x2000#16 then { s with bus := { s.bus with ram := Memory.write s.bus.ram (ramIndex addr) v } }
    else if addr < 0x4000#16 then ppuCpuWrite s (ppuRegOf addr) v
    else if addr < 0x4018#16 then
      if addr = 0x4014#16 then { s with bus := dmaTrigger s.bus v } else ioWrite s addr v
    else s

/-- `Read16(addr)`: little-endian, the second address modulo 2^16 (00 R14, 20 R123). -/
def read16 (s : State) (addr : Word) : Word × State :=
  let lo := memRead s addr
  let hi := memRead lo.2 (addr + 1#16)
  (wordOf lo.1 hi.1, hi.2)

end Sys2Proof.Machine
end

