-- ==== Sys2Proof/Machine/Flags.lean ====
section
/-! DEFINITION. The status register's bits and every flag computation: setNZ, the adder, the compare, the shifts and
rotates, BIT, and the special cases of ANC, ALR, ARR and AXS (10 R38, 42, 44). -/

namespace Sys2Proof.Machine

/-- The bit positions of P (10 R38). -/
def flagC : Nat := 0
def flagZ : Nat := 1
def flagI : Nat := 2
def flagD : Nat := 3
def flagB0 : Nat := 4
def flagB1 : Nat := 5
def flagV : Nat := 6
def flagN : Nat := 7

/-- `P` with bit `i` set to `b`. -/
def withFlag (p : Byte) (i : Nat) (b : Bool) : Byte :=
  if b then p ||| (1#8 <<< i) else p &&& ~~~(1#8 <<< i)

/-- Bit `i` of `P`. -/
def getFlag (p : Byte) (i : Nat) : Bool := p.getLsbD i

/-- `setNZ(v)` on a status byte (00 R13). -/
def setNZ (p : Byte) (v : Byte) : Byte := withFlag (withFlag p flagZ (v == 0#8)) flagN (v.getLsbD 7)

/-- The stored form of a status byte pulled from the stack: B0 forced 0, B1 forced 1 (10 R39). -/
def pulledP (v : Byte) : Byte := (v &&& ~~~0x10#8) ||| 0x20#8

/-- The status byte PHP and BRK push (10 R39). -/
def softwarePushedP (p : Byte) : Byte := p ||| 0x30#8

/-- The status byte the NMI and IRQ sequences push (10 R39). -/
def interruptPushedP (p : Byte) : Byte := (p &&& ~~~0x10#8) ||| 0x20#8

/-- The 9-bit sum `A + m + C` (42 R280). -/
def adcSum (a m : Byte) (c : Bool) : BitVec 9 :=
  a.setWidth 9 + m.setWidth 9 + (if c then 1#9 else 0#9)

/-- The overflow bit `((~(A ^ m) & (A ^ sum)) & 0x80) != 0` (42 R280). -/
def adcOverflow (a m r : Byte) : Bool := (~~~(a ^^^ m) &&& (a ^^^ r) &&& 0x80#8) != 0#8

/-- The result of `adc(m)` (42 R280). -/
def adcResult (a m : Byte) (c : Bool) : Byte := (adcSum a m c).setWidth 8

/-- The status byte after `adc(m)`: C, V, Z, N (42 R280). Always binary (42 R281). -/
def adcFlags (p a m : Byte) : Byte :=
  let r := adcResult a m (getFlag p flagC)
  setNZ (withFlag (withFlag p flagC ((adcSum a m (getFlag p flagC)).getLsbD 8)) flagV (adcOverflow a m r)) r

/-- The status byte after `cmp(r, m)`: C, Z, N (42 R286). -/
def cmpFlags (p r m : Byte) : Byte :=
  withFlag (withFlag (withFlag p flagC (decide (m ≤ r))) flagZ (r == m)) flagN ((r - m).getLsbD 7)

/-- The status byte after BIT (42 R289). -/
def bitFlags (p a m : Byte) : Byte :=
  withFlag (withFlag (withFlag p flagZ ((a &&& m) == 0#8)) flagV (m.getLsbD 6)) flagN (m.getLsbD 7)

/-- A shift or rotate: from the status byte and the operand, the result and the carry out. -/
abbrev ShiftFn := Byte → Byte → Byte × Bool

/-- `asl(m)` (42 R296). -/
def aslFn : ShiftFn := fun _ m => (m <<< 1, m.getLsbD 7)

/-- `lsr(m)` (42 R297). -/
def lsrFn : ShiftFn := fun _ m => (m >>> 1, m.getLsbD 0)

/-- `rol(m)` (42 R298). -/
def rolFn : ShiftFn := fun p m =>
  ((m <<< 1) ||| (if getFlag p flagC then 1#8 else 0#8), m.getLsbD 7)

/-- `ror(m)` (42 R299). -/
def rorFn : ShiftFn := fun p m =>
  ((m >>> 1) ||| (if getFlag p flagC then 0x80#8 else 0#8), m.getLsbD 0)

/-- The status byte after a shift or rotate: C, Z, N (42 R296-R299). -/
def shiftFlags (f : ShiftFn) (p m : Byte) : Byte := setNZ (withFlag p flagC (f p m).2) (f p m).1

/-- The status byte after ANC: Z, N of `A & M`, and C = N (44 R359). -/
def ancFlags (p a m : Byte) : Byte := withFlag (setNZ p (a &&& m)) flagC ((a &&& m).getLsbD 7)

/-- The result of ALR (44 R360). -/
def alrResult (a m : Byte) : Byte := (a &&& m) >>> 1

/-- The status byte after ALR (44 R360). -/
def alrFlags (p a m : Byte) : Byte := setNZ (withFlag p flagC ((a &&& m).getLsbD 0)) (alrResult a m)

/-- The result of ARR (44 R361). -/
def arrResult (p a m : Byte) : Byte :=
  ((a &&& m) >>> 1) ||| (if getFlag p flagC then 0x80#8 else 0#8)

/-- The status byte after ARR: Z, N of the result, C its bit 6, V its bit 6 XOR bit 5 (44 R361). -/
def arrFlags (p a m : Byte) : Byte :=
  let r := arrResult p a m
  withFlag (withFlag (setNZ p r) flagC (r.getLsbD 6)) flagV (r.getLsbD 6 != r.getLsbD 5)

/-- The status byte after AXS: `C <- (t ≥ M)` and Z, N of the result, with `t = A & X` (44 R362). -/
def axsFlags (p t m : Byte) : Byte := setNZ (withFlag p flagC (decide (m ≤ t))) (t - m)

end Sys2Proof.Machine
end

