-- ==== Sys2Proof/Machine/Ops.lean ====
section
/-! DEFINITION. The named operations over registers and the stack, taking an exception (BRK, NMI, IRQ) and the return
from one, the kill path, and how an operation on the state becomes an answer. -/

namespace Sys2Proof.Machine

/-- Replace the CPU. -/
def State.setCpu (s : State) (c : Cpu) : State := { s with cpu := c }

/-- `A <- v` (10 R35). -/
def State.setA (s : State) (v : Byte) : State := s.setCpu { s.cpu with a := v }

/-- `X <- v` (10 R35). -/
def State.setX (s : State) (v : Byte) : State := s.setCpu { s.cpu with x := v }

/-- `Y <- v` (10 R35). -/
def State.setY (s : State) (v : Byte) : State := s.setCpu { s.cpu with y := v }

/-- `S <- v` (10 R37). -/
def State.setS (s : State) (v : Byte) : State := s.setCpu { s.cpu with s := v }

/-- `P <- v` (10 R38). -/
def State.setP (s : State) (v : Byte) : State := s.setCpu { s.cpu with p := v }

/-- `PC <- v` (10 R41). -/
def State.setPc (s : State) (v : Word) : State := s.setCpu { s.cpu with pc := v }

/-- `EffAddr <- v` (10 R42). -/
def State.setEffAddr (s : State) (v : Word) : State := s.setCpu { s.cpu with effAddr := v }

/-- `CyclesLeft <- n` (10 R42). -/
def State.setCycles (s : State) (n : Byte) : State := s.setCpu { s.cpu with cyclesLeft := n }

/-- `A <- v; setNZ(A)`. -/
def State.loadA (s : State) (v : Byte) : State := s.setCpu { s.cpu with a := v, p := setNZ s.cpu.p v }

/-- `X <- v; setNZ(X)`. -/
def State.loadX (s : State) (v : Byte) : State := s.setCpu { s.cpu with x := v, p := setNZ s.cpu.p v }

/-- `Y <- v; setNZ(Y)`. -/
def State.loadY (s : State) (v : Byte) : State := s.setCpu { s.cpu with y := v, p := setNZ s.cpu.p v }

/-- The stack address `0x0100 | S` (10 R37). -/
def stackAddr (sp : Byte) : Word := 0x01#8 ++ sp

/-- `push8(v)` (00 R14). -/
def push8 (s : State) (v : Byte) : State :=
  let s1 := memWrite s (stackAddr s.cpu.s) v
  s1.setS (s1.cpu.s - 1#8)

/-- `pull8()` (00 R14). -/
def pull8 (s : State) : Byte × State :=
  let s1 := s.setS (s.cpu.s + 1#8)
  memRead s1 (stackAddr s1.cpu.s)

/-- `push16(v)`: the high byte first (00 R14). -/
def push16 (s : State) (v : Word) : State := push8 (push8 s (hiByte v)) (loByte v)

/-- `pull16()`: the low byte first (00 R14). -/
def pull16 (s : State) : Word × State :=
  let lo := pull8 s
  let hi := pull8 lo.2
  (wordOf lo.1 hi.1, hi.2)

/-- Taking an exception: push the PC and a status byte, set I, load the PC from the vector at `vec`
(60 R388-R390, 43 R313). The saved PC is the PC as it stands. -/
def enterException (s : State) (vec : Word) (pushed : Byte) : State :=
  let s1 := push8 (push16 s s.cpu.pc) pushed
  let s2 := s1.setP (withFlag s1.cpu.p flagI true)
  let target := read16 s2 vec
  target.2.setPc target.1

/-- Returning from one: pull P (B0 forced 0, B1 forced 1), then the PC (43 R315, 60 R394). -/
def returnFromException (s : State) : State :=
  let p := pull8 s
  let s1 := p.2.setP (pulledP p.1)
  let target := pull16 s1
  target.2.setPc target.1

/-- The vectors (20 R130). -/
def nmiVector : Word := 0xFFFA#16
def resetVector : Word := 0xFFFC#16
def irqVector : Word := 0xFFFE#16

/-- The 7-cycle NMI sequence (60 R388). -/
def nmiSequence (s : State) : State :=
  let t := enterException s nmiVector (interruptPushedP s.cpu.p)
  t.setCpu { t.cpu with nmiPending := false, nmiDue := false, cyclesLeft := 7#8 }

/-- The 7-cycle IRQ sequence (60 R389). -/
def irqSequence (s : State) : State :=
  let t := enterException s irqVector (interruptPushedP s.cpu.p)
  t.setCpu { t.cpu with irqDue := false, cyclesLeft := 7#8 }

/-- `raise Kill` (60 R393). -/
def raiseKill (s : State) : State := s.setCpu { s.cpu with isKilled := true }

/-- `adc(m)` (42 R280). -/
def adc (m : Byte) (s : State) : State :=
  s.setCpu { s.cpu with a := adcResult s.cpu.a m (getFlag s.cpu.p flagC), p := adcFlags s.cpu.p s.cpu.a m }

/-- `cmp(r, m)` (42 R286). -/
def cmp (r m : Byte) (s : State) : State := s.setP (cmpFlags s.cpu.p r m)

/-- Answer with a state, or with the refusal it is marked with (00 R15). -/
def finish (s : State) : Result :=
  match s.refusal with
  | none => .next s
  | some r => .refused r

/-- Go on from an answer if it is a next state. -/
def andThen (r : Result) (f : State → Result) : Result :=
  match r with
  | .next s => f s
  | .fault e => .fault e
  | .refused e => .refused e

end Sys2Proof.Machine
end

