-- ==== Sys2Proof/Machine/Operands.lean ====
section
/-! DEFINITION. The thirteen addressing modes (40 R234-R244), and the shapes in which an instruction runs over its
operand: reading, storing, read-modify-write, implied, jump, branch, kill (40 R226, R245, R246).

The operand bytes were read when the instruction was fetched (`fetch`); `operand` holds them, a single byte
zero-extended. -/

namespace Sys2Proof.Machine

/-- What an addressing mode produces (40 R226): the effective address, the page-cross bit and the state after the
mode's pointer reads. -/
structure Ea where
  ea    : Word
  cross : Bool
  st    : State
  deriving DecidableEq, Repr

/-- `base + index` with the page-cross bit (40 R240, R243). -/
def indexed (base : Word) (index : Byte) (s : State) : Ea :=
  let ea := base + index.setWidth 16
  ⟨ea, hiByte ea != hiByte base, s⟩

/-- The zero-page address of a byte. -/
def zeroPage (z : Byte) : Word := z.setWidth 16

/-- A little-endian pointer in the zero page, wrapping inside it (40 R242, R243). -/
def zeroPagePointer (s : State) (z : Byte) : Word × State :=
  let lo := memRead s (zeroPage z)
  let hi := memRead lo.2 (zeroPage (z + 1#8))
  (wordOf lo.1 hi.1, hi.2)

/-- The pointer of `JMP (ptr)`, its high byte from the same page (40 R241). -/
def indirectPointer (s : State) (ptr : Word) : Word × State :=
  let lo := memRead s ptr
  let hi := memRead lo.2 ((ptr &&& 0xFF00#16) ||| ((ptr + 1#16) &&& 0x00FF#16))
  (wordOf lo.1 hi.1, hi.2)

/-- The addressing modes (40 R234-R244), run with the PC past the instruction's bytes. -/
def resolve (m : Mode) (operand : Word) (s : State) : Ea :=
  match m with
  | .imp | .acc => ⟨0#16, false, s⟩
  | .imm => ⟨s.cpu.pc - 1#16, false, s⟩
  | .zp0 | .abs => ⟨operand, false, s⟩
  | .zpx => ⟨zeroPage (loByte operand + s.cpu.x), false, s⟩
  | .zpy => ⟨zeroPage (loByte operand + s.cpu.y), false, s⟩
  | .abx => indexed operand s.cpu.x s
  | .aby => indexed operand s.cpu.y s
  | .ind =>
    let p := indirectPointer s operand
    ⟨p.1, false, p.2⟩
  | .izx =>
    let p := zeroPagePointer s (loByte operand + s.cpu.x)
    ⟨p.1, false, p.2⟩
  | .izy =>
    let p := zeroPagePointer s (loByte operand)
    indexed p.1 s.cpu.y p.2
  | .rel => ⟨s.cpu.pc + (loByte operand).signExtend 16, false, s⟩

/-- The fetch bookkeeping of 40 R226: Opcode and Mode, PC past the instruction's bytes (10 R41), InstrCount + 1. -/
def beginInstr (op : Byte) (s : State) : State :=
  let m := (opInfo op).mode
  s.setCpu { s.cpu with
    opcode := op
    mode := m
    pc := s.cpu.pc + BitVec.ofNat 16 (modeLength m)
    instrCount := s.cpu.instrCount + 1#64 }

/-- Begin the instruction and run its addressing mode, recording EffAddr (40 R226). -/
def beginAndResolve (op : Byte) (operand : Word) (s : State) : Ea :=
  let e := resolve (opInfo op).mode operand (beginInstr op s)
  ⟨e.ea, e.cross, e.st.setEffAddr e.ea⟩

/-- The operand `M` of a reading instruction (40 R245): A in ACC mode, the immediate byte (read at the fetch) in IMM
mode, nothing in IMP mode, and otherwise one read of `ea`. -/
def readOperand (m : Mode) (operand : Word) (ea : Word) (s : State) : Byte × State :=
  match m with
  | .imp => (0#8, s)
  | .acc => (s.cpu.a, s)
  | .imm => (loByte operand, s)
  | _ => memRead s ea

/-- Write a read-modify-write result back: to A in ACC mode, else to `ea`, once (40 R246). -/
def writeBack (m : Mode) (ea : Word) (v : Byte) (s : State) : State :=
  match m with
  | .acc => s.setA v
  | _ => memWrite s ea v

/-- The cycles of an instruction that is no branch: base plus the page-cross penalty (40 R228, R229). -/
def cyclesOf (op : Byte) (cross : Bool) : Byte :=
  if (opInfo op).pen && cross then (opInfo op).cycles + 1#8 else (opInfo op).cycles

/-- A reading instruction: read `M`, then its handler `f`. -/
def runRead (op : Byte) (operand : Word) (f : Byte → State → State) (s : State) : Result :=
  let e := beginAndResolve op operand s
  let m := readOperand (opInfo op).mode operand e.ea e.st
  finish ((f m.1 m.2).setCycles (cyclesOf op e.cross))

/-- A store: write the byte `src` gives to `ea`, with no read of it (40 R245, R246). -/
def runStore (op : Byte) (operand : Word) (src : Cpu → Byte) (s : State) : Result :=
  let e := beginAndResolve op operand s
  finish ((memWrite e.st e.ea (src e.st.cpu)).setCycles (cyclesOf op e.cross))

/-- A read-modify-write instruction: read `M` once, compute the result, write it back once, then update the
registers with `g`, given the operand and the result (40 R246, 44 R350). `f` takes P and `M`. -/
def runModify (op : Byte) (operand : Word) (f : Byte → Byte → Byte) (g : Byte → Byte → State → State) (s : State) :
    Result :=
  let e := beginAndResolve op operand s
  let m := readOperand (opInfo op).mode operand e.ea e.st
  let r := f m.2.cpu.p m.1
  let s1 := writeBack (opInfo op).mode e.ea r m.2
  finish ((g m.1 r s1).setCycles (cyclesOf op e.cross))

/-- An implied instruction: its handler `f`. -/
def runImplied (op : Byte) (f : State → State) (s : State) : Result :=
  let e := beginAndResolve op 0#16 s
  finish ((f e.st).setCycles (cyclesOf op false))

/-- A jump: its handler `f`, given `ea`, which is not read (40 R239). -/
def runJump (op : Byte) (operand : Word) (f : Word → State → State) (s : State) : Result :=
  let e := beginAndResolve op operand s
  finish ((f e.ea e.st).setCycles (cyclesOf op false))

/-- The cycles of a branch: 2, 3 taken, 4 taken to another page than the next instruction's (40 R230, 43 R316). -/
def branchCycles (op : Byte) (taken : Bool) (target next : Word) : Byte :=
  if taken then
    (opInfo op).cycles + 1#8 + (if (target &&& 0xFF00#16) != (next &&& 0xFF00#16) then 1#8 else 0#8)
  else (opInfo op).cycles

/-- A conditional branch (43 R316); `cond` is its condition on P. -/
def runBranch (op : Byte) (rel : Byte) (cond : Byte → Bool) (s : State) : Result :=
  let e := beginAndResolve op (zeroPage rel) s
  let taken := cond e.st.cpu.p
  let s1 := if taken then e.st.setPc e.ea else e.st
  finish (s1.setCycles (branchCycles op taken e.ea e.st.cpu.pc))

/-- What every kill opcode loads into `CyclesLeft`, whatever count the opcode map lists for it (92 D14, cited by
44 R370, R371 and 60 R393; log 10). -/
def killCycles : Byte := 2#8

/-- A kill opcode: the mode is resolved, no data byte is read or written, and the CPU is killed (44 R370, R371). -/
def runKill (op : Byte) (operand : Word) (s : State) : Result :=
  finish ((raiseKill (beginAndResolve op operand s).st).setCycles killCycles)

end Sys2Proof.Machine
end

