-- ==== Sys2Proof/Machine/Arith.lean ====
section
/-! DEFINITION. Add, subtract, logic, compare and bit test (spec/42_arithmetic_logic.md sections 2-4). -/

namespace Sys2Proof.Machine

/-- `adc(M)` (42 R280). -/
def doAdc (m : Byte) (s : State) : State := adc m s

/-- `61` ADC ($nn,X) (42 R280). -/
def execAdcIzx (zp : Byte) (s : State) : Result := runRead 0x61#8 (zeroPage zp) doAdc s

/-- `65` ADC $nn (42 R280). -/
def execAdcZp0 (zp : Byte) (s : State) : Result := runRead 0x65#8 (zeroPage zp) doAdc s

/-- `69` ADC #$nn (42 R280). -/
def execAdcImm (imm : Byte) (s : State) : Result := runRead 0x69#8 (zeroPage imm) doAdc s

/-- `6D` ADC $nnnn (42 R280). -/
def execAdcAbs (addr : Word) (s : State) : Result := runRead 0x6D#8 addr doAdc s

/-- `71` ADC ($nn),Y (42 R280). -/
def execAdcIzy (zp : Byte) (s : State) : Result := runRead 0x71#8 (zeroPage zp) doAdc s

/-- `75` ADC $nn,X (42 R280). -/
def execAdcZpx (zp : Byte) (s : State) : Result := runRead 0x75#8 (zeroPage zp) doAdc s

/-- `79` ADC $nnnn,Y (42 R280). -/
def execAdcAby (addr : Word) (s : State) : Result := runRead 0x79#8 addr doAdc s

/-- `7D` ADC $nnnn,X (42 R280). -/
def execAdcAbx (addr : Word) (s : State) : Result := runRead 0x7D#8 addr doAdc s

/-- `adc(~M & 0xFF)` (42 R282). -/
def doSbc (m : Byte) (s : State) : State := adc (~~~m) s

/-- `E1` SBC ($nn,X) (42 R282). -/
def execSbcIzx (zp : Byte) (s : State) : Result := runRead 0xE1#8 (zeroPage zp) doSbc s

/-- `E5` SBC $nn (42 R282). -/
def execSbcZp0 (zp : Byte) (s : State) : Result := runRead 0xE5#8 (zeroPage zp) doSbc s

/-- `E9` SBC #$nn (42 R282). -/
def execSbcImm (imm : Byte) (s : State) : Result := runRead 0xE9#8 (zeroPage imm) doSbc s

/-- `ED` SBC $nnnn (42 R282). -/
def execSbcAbs (addr : Word) (s : State) : Result := runRead 0xED#8 addr doSbc s

/-- `F1` SBC ($nn),Y (42 R282). -/
def execSbcIzy (zp : Byte) (s : State) : Result := runRead 0xF1#8 (zeroPage zp) doSbc s

/-- `F5` SBC $nn,X (42 R282). -/
def execSbcZpx (zp : Byte) (s : State) : Result := runRead 0xF5#8 (zeroPage zp) doSbc s

/-- `F9` SBC $nnnn,Y (42 R282). -/
def execSbcAby (addr : Word) (s : State) : Result := runRead 0xF9#8 addr doSbc s

/-- `FD` SBC $nnnn,X (42 R282). -/
def execSbcAbx (addr : Word) (s : State) : Result := runRead 0xFD#8 addr doSbc s

/-- `A <- A & M; setNZ(A)` (42 R283). -/
def doAnd (m : Byte) (s : State) : State := s.loadA (s.cpu.a &&& m)

/-- `21` AND ($nn,X) (42 R283). -/
def execAndIzx (zp : Byte) (s : State) : Result := runRead 0x21#8 (zeroPage zp) doAnd s

/-- `25` AND $nn (42 R283). -/
def execAndZp0 (zp : Byte) (s : State) : Result := runRead 0x25#8 (zeroPage zp) doAnd s

/-- `29` AND #$nn (42 R283). -/
def execAndImm (imm : Byte) (s : State) : Result := runRead 0x29#8 (zeroPage imm) doAnd s

/-- `2D` AND $nnnn (42 R283). -/
def execAndAbs (addr : Word) (s : State) : Result := runRead 0x2D#8 addr doAnd s

/-- `31` AND ($nn),Y (42 R283). -/
def execAndIzy (zp : Byte) (s : State) : Result := runRead 0x31#8 (zeroPage zp) doAnd s

/-- `35` AND $nn,X (42 R283). -/
def execAndZpx (zp : Byte) (s : State) : Result := runRead 0x35#8 (zeroPage zp) doAnd s

/-- `39` AND $nnnn,Y (42 R283). -/
def execAndAby (addr : Word) (s : State) : Result := runRead 0x39#8 addr doAnd s

/-- `3D` AND $nnnn,X (42 R283). -/
def execAndAbx (addr : Word) (s : State) : Result := runRead 0x3D#8 addr doAnd s

/-- `A <- A | M; setNZ(A)` (42 R284). -/
def doOra (m : Byte) (s : State) : State := s.loadA (s.cpu.a ||| m)

/-- `01` ORA ($nn,X) (42 R284). -/
def execOraIzx (zp : Byte) (s : State) : Result := runRead 0x01#8 (zeroPage zp) doOra s

/-- `05` ORA $nn (42 R284). -/
def execOraZp0 (zp : Byte) (s : State) : Result := runRead 0x05#8 (zeroPage zp) doOra s

/-- `09` ORA #$nn (42 R284). -/
def execOraImm (imm : Byte) (s : State) : Result := runRead 0x09#8 (zeroPage imm) doOra s

/-- `0D` ORA $nnnn (42 R284). -/
def execOraAbs (addr : Word) (s : State) : Result := runRead 0x0D#8 addr doOra s

/-- `11` ORA ($nn),Y (42 R284). -/
def execOraIzy (zp : Byte) (s : State) : Result := runRead 0x11#8 (zeroPage zp) doOra s

/-- `15` ORA $nn,X (42 R284). -/
def execOraZpx (zp : Byte) (s : State) : Result := runRead 0x15#8 (zeroPage zp) doOra s

/-- `19` ORA $nnnn,Y (42 R284). -/
def execOraAby (addr : Word) (s : State) : Result := runRead 0x19#8 addr doOra s

/-- `1D` ORA $nnnn,X (42 R284). -/
def execOraAbx (addr : Word) (s : State) : Result := runRead 0x1D#8 addr doOra s

/-- `A <- A ^ M; setNZ(A)` (42 R285). -/
def doEor (m : Byte) (s : State) : State := s.loadA (s.cpu.a ^^^ m)

/-- `41` EOR ($nn,X) (42 R285). -/
def execEorIzx (zp : Byte) (s : State) : Result := runRead 0x41#8 (zeroPage zp) doEor s

/-- `45` EOR $nn (42 R285). -/
def execEorZp0 (zp : Byte) (s : State) : Result := runRead 0x45#8 (zeroPage zp) doEor s

/-- `49` EOR #$nn (42 R285). -/
def execEorImm (imm : Byte) (s : State) : Result := runRead 0x49#8 (zeroPage imm) doEor s

/-- `4D` EOR $nnnn (42 R285). -/
def execEorAbs (addr : Word) (s : State) : Result := runRead 0x4D#8 addr doEor s

/-- `51` EOR ($nn),Y (42 R285). -/
def execEorIzy (zp : Byte) (s : State) : Result := runRead 0x51#8 (zeroPage zp) doEor s

/-- `55` EOR $nn,X (42 R285). -/
def execEorZpx (zp : Byte) (s : State) : Result := runRead 0x55#8 (zeroPage zp) doEor s

/-- `59` EOR $nnnn,Y (42 R285). -/
def execEorAby (addr : Word) (s : State) : Result := runRead 0x59#8 addr doEor s

/-- `5D` EOR $nnnn,X (42 R285). -/
def execEorAbx (addr : Word) (s : State) : Result := runRead 0x5D#8 addr doEor s

/-- `cmp(A, M)` (42 R286). -/
def doCmp (m : Byte) (s : State) : State := cmp s.cpu.a m s

/-- `C1` CMP ($nn,X) (42 R286). -/
def execCmpIzx (zp : Byte) (s : State) : Result := runRead 0xC1#8 (zeroPage zp) doCmp s

/-- `C5` CMP $nn (42 R286). -/
def execCmpZp0 (zp : Byte) (s : State) : Result := runRead 0xC5#8 (zeroPage zp) doCmp s

/-- `C9` CMP #$nn (42 R286). -/
def execCmpImm (imm : Byte) (s : State) : Result := runRead 0xC9#8 (zeroPage imm) doCmp s

/-- `CD` CMP $nnnn (42 R286). -/
def execCmpAbs (addr : Word) (s : State) : Result := runRead 0xCD#8 addr doCmp s

/-- `D1` CMP ($nn),Y (42 R286). -/
def execCmpIzy (zp : Byte) (s : State) : Result := runRead 0xD1#8 (zeroPage zp) doCmp s

/-- `D5` CMP $nn,X (42 R286). -/
def execCmpZpx (zp : Byte) (s : State) : Result := runRead 0xD5#8 (zeroPage zp) doCmp s

/-- `D9` CMP $nnnn,Y (42 R286). -/
def execCmpAby (addr : Word) (s : State) : Result := runRead 0xD9#8 addr doCmp s

/-- `DD` CMP $nnnn,X (42 R286). -/
def execCmpAbx (addr : Word) (s : State) : Result := runRead 0xDD#8 addr doCmp s

/-- `cmp(X, M)` (42 R287). -/
def doCpx (m : Byte) (s : State) : State := cmp s.cpu.x m s

/-- `E0` CPX #$nn (42 R287). -/
def execCpxImm (imm : Byte) (s : State) : Result := runRead 0xE0#8 (zeroPage imm) doCpx s

/-- `E4` CPX $nn (42 R287). -/
def execCpxZp0 (zp : Byte) (s : State) : Result := runRead 0xE4#8 (zeroPage zp) doCpx s

/-- `EC` CPX $nnnn (42 R287). -/
def execCpxAbs (addr : Word) (s : State) : Result := runRead 0xEC#8 addr doCpx s

/-- `cmp(Y, M)` (42 R288). -/
def doCpy (m : Byte) (s : State) : State := cmp s.cpu.y m s

/-- `C0` CPY #$nn (42 R288). -/
def execCpyImm (imm : Byte) (s : State) : Result := runRead 0xC0#8 (zeroPage imm) doCpy s

/-- `C4` CPY $nn (42 R288). -/
def execCpyZp0 (zp : Byte) (s : State) : Result := runRead 0xC4#8 (zeroPage zp) doCpy s

/-- `CC` CPY $nnnn (42 R288). -/
def execCpyAbs (addr : Word) (s : State) : Result := runRead 0xCC#8 addr doCpy s

/-- Z of `A & M`, V and N of `M` (42 R289). -/
def doBit (m : Byte) (s : State) : State := s.setP (bitFlags s.cpu.p s.cpu.a m)

/-- `24` BIT $nn (42 R289). -/
def execBitZp0 (zp : Byte) (s : State) : Result := runRead 0x24#8 (zeroPage zp) doBit s

/-- `2C` BIT $nnnn (42 R289). -/
def execBitAbs (addr : Word) (s : State) : Result := runRead 0x2C#8 addr doBit s

end Sys2Proof.Machine
end

