-- ==== Sys2Proof/Machine/Control.lean ====
section
/-! DEFINITION. Jumps, subroutines, BRK, RTI and branches (spec/43_control_stack_flags.md sections 1, 2). -/

namespace Sys2Proof.Machine

/-- `PC <- ea` (43 R310). -/
def doJmp (ea : Word) (s : State) : State := s.setPc ea

/-- `4C` JMP $nnnn (43 R310). -/
def execJmpAbs (addr : Word) (s : State) : Result := runJump 0x4C#8 addr doJmp s

/-- `6C` JMP ($nnnn) (43 R310). -/
def execJmpInd (addr : Word) (s : State) : Result := runJump 0x6C#8 addr doJmp s

/-- `push16(PC - 1); PC <- ea` (43 R311). -/
def doJsr (ea : Word) (s : State) : State := (push16 s (s.cpu.pc - 1#16)).setPc ea

/-- `20` JSR $nnnn (43 R311). -/
def execJsrAbs (addr : Word) (s : State) : Result := runJump 0x20#8 addr doJsr s

/-- `PC <- pull16() + 1` (43 R312). -/
def doRts (s : State) : State :=
  let r := pull16 s
  r.2.setPc (r.1 + 1#16)

/-- `60` RTS (43 R312). -/
def execRts (s : State) : Result := runImplied 0x60#8 doRts s

/-- Skip the padding byte and take the IRQ vector with `P | 0x30` pushed (43 R313, 60 R392). -/
def doBrk (s : State) : State :=
  enterException (s.setPc (s.cpu.pc + 1#16)) irqVector (softwarePushedP s.cpu.p)

/-- `00` BRK (43 R313). -/
def execBrk (s : State) : Result := runImplied 0x00#8 doBrk s

/-- Return from an exception (43 R315). -/
def doRti (s : State) : State := returnFromException s

/-- `40` RTI (43 R315). -/
def execRti (s : State) : Result := runImplied 0x40#8 doRti s

/-- `10` BPL $nnnn (43 R317). -/
def execBpl (rel : Byte) (s : State) : Result := runBranch 0x10#8 rel (fun p => !getFlag p flagN) s

/-- `30` BMI $nnnn (43 R318). -/
def execBmi (rel : Byte) (s : State) : Result := runBranch 0x30#8 rel (fun p => getFlag p flagN) s

/-- `50` BVC $nnnn (43 R319). -/
def execBvc (rel : Byte) (s : State) : Result := runBranch 0x50#8 rel (fun p => !getFlag p flagV) s

/-- `70` BVS $nnnn (43 R320). -/
def execBvs (rel : Byte) (s : State) : Result := runBranch 0x70#8 rel (fun p => getFlag p flagV) s

/-- `90` BCC $nnnn (43 R321). -/
def execBcc (rel : Byte) (s : State) : Result := runBranch 0x90#8 rel (fun p => !getFlag p flagC) s

/-- `B0` BCS $nnnn (43 R322). -/
def execBcs (rel : Byte) (s : State) : Result := runBranch 0xB0#8 rel (fun p => getFlag p flagC) s

/-- `D0` BNE $nnnn (43 R323). -/
def execBne (rel : Byte) (s : State) : Result := runBranch 0xD0#8 rel (fun p => !getFlag p flagZ) s

/-- `F0` BEQ $nnnn (43 R324). -/
def execBeq (rel : Byte) (s : State) : Result := runBranch 0xF0#8 rel (fun p => getFlag p flagZ) s

end Sys2Proof.Machine
end

