-- ==== Sys2Proof/Machine/Kill.lean ====
section
/-! DEFINITION. The kill opcodes (spec/44_undocumented.md section 5). -/

namespace Sys2Proof.Machine

/-- `02` KIL (44 R370). -/
def execKil02 (s : State) : Result := runKill 0x02#8 0#16 s

/-- `12` KIL (44 R370). -/
def execKil12 (s : State) : Result := runKill 0x12#8 0#16 s

/-- `22` KIL (44 R370). -/
def execKil22 (s : State) : Result := runKill 0x22#8 0#16 s

/-- `32` KIL (44 R370). -/
def execKil32 (s : State) : Result := runKill 0x32#8 0#16 s

/-- `42` KIL (44 R370). -/
def execKil42 (s : State) : Result := runKill 0x42#8 0#16 s

/-- `52` KIL (44 R370). -/
def execKil52 (s : State) : Result := runKill 0x52#8 0#16 s

/-- `62` KIL (44 R370). -/
def execKil62 (s : State) : Result := runKill 0x62#8 0#16 s

/-- `72` KIL (44 R370). -/
def execKil72 (s : State) : Result := runKill 0x72#8 0#16 s

/-- `92` KIL (44 R370). -/
def execKil92 (s : State) : Result := runKill 0x92#8 0#16 s

/-- `B2` KIL (44 R370). -/
def execKilB2 (s : State) : Result := runKill 0xB2#8 0#16 s

/-- `D2` KIL (44 R370). -/
def execKilD2 (s : State) : Result := runKill 0xD2#8 0#16 s

/-- `F2` KIL (44 R370). -/
def execKilF2 (s : State) : Result := runKill 0xF2#8 0#16 s

/-- `93` AHX ($nn),Y (44 R372). -/
def execAhxIzy (zp : Byte) (s : State) : Result := runKill 0x93#8 (zeroPage zp) s

/-- `9F` AHX $nnnn,Y (44 R372). -/
def execAhxAby (addr : Word) (s : State) : Result := runKill 0x9F#8 addr s

/-- `9B` TAS $nnnn,Y (44 R373). -/
def execTasAby (addr : Word) (s : State) : Result := runKill 0x9B#8 addr s

/-- `9C` SHY $nnnn,X (44 R374). -/
def execShyAbx (addr : Word) (s : State) : Result := runKill 0x9C#8 addr s

/-- `9E` SHX $nnnn,Y (44 R375). -/
def execShxAby (addr : Word) (s : State) : Result := runKill 0x9E#8 addr s

/-- `8B` XAA #$nn (44 R376). -/
def execXaaImm (imm : Byte) (s : State) : Result := runKill 0x8B#8 (zeroPage imm) s

end Sys2Proof.Machine
end

