-- ==== Sys2Proof/Machine/LoadStore.lean ====
section
/-! DEFINITION. Loads, stores and register transfers (spec/41_load_store_transfer.md). -/

namespace Sys2Proof.Machine

/-- `A <- M; setNZ(A)` (41 R260). -/
def doLda (m : Byte) (s : State) : State := s.loadA m

/-- `A1` LDA ($nn,X) (41 R260). -/
def execLdaIzx (zp : Byte) (s : State) : Result := runRead 0xA1#8 (zeroPage zp) doLda s

/-- `A5` LDA $nn (41 R260). -/
def execLdaZp0 (zp : Byte) (s : State) : Result := runRead 0xA5#8 (zeroPage zp) doLda s

/-- `A9` LDA #$nn (41 R260). -/
def execLdaImm (imm : Byte) (s : State) : Result := runRead 0xA9#8 (zeroPage imm) doLda s

/-- `AD` LDA $nnnn (41 R260). -/
def execLdaAbs (addr : Word) (s : State) : Result := runRead 0xAD#8 addr doLda s

/-- `B1` LDA ($nn),Y (41 R260). -/
def execLdaIzy (zp : Byte) (s : State) : Result := runRead 0xB1#8 (zeroPage zp) doLda s

/-- `B5` LDA $nn,X (41 R260). -/
def execLdaZpx (zp : Byte) (s : State) : Result := runRead 0xB5#8 (zeroPage zp) doLda s

/-- `B9` LDA $nnnn,Y (41 R260). -/
def execLdaAby (addr : Word) (s : State) : Result := runRead 0xB9#8 addr doLda s

/-- `BD` LDA $nnnn,X (41 R260). -/
def execLdaAbx (addr : Word) (s : State) : Result := runRead 0xBD#8 addr doLda s

/-- `X <- M; setNZ(X)` (41 R261). -/
def doLdx (m : Byte) (s : State) : State := s.loadX m

/-- `A2` LDX #$nn (41 R261). -/
def execLdxImm (imm : Byte) (s : State) : Result := runRead 0xA2#8 (zeroPage imm) doLdx s

/-- `A6` LDX $nn (41 R261). -/
def execLdxZp0 (zp : Byte) (s : State) : Result := runRead 0xA6#8 (zeroPage zp) doLdx s

/-- `AE` LDX $nnnn (41 R261). -/
def execLdxAbs (addr : Word) (s : State) : Result := runRead 0xAE#8 addr doLdx s

/-- `B6` LDX $nn,Y (41 R261). -/
def execLdxZpy (zp : Byte) (s : State) : Result := runRead 0xB6#8 (zeroPage zp) doLdx s

/-- `BE` LDX $nnnn,Y (41 R261). -/
def execLdxAby (addr : Word) (s : State) : Result := runRead 0xBE#8 addr doLdx s

/-- `Y <- M; setNZ(Y)` (41 R262). -/
def doLdy (m : Byte) (s : State) : State := s.loadY m

/-- `A0` LDY #$nn (41 R262). -/
def execLdyImm (imm : Byte) (s : State) : Result := runRead 0xA0#8 (zeroPage imm) doLdy s

/-- `A4` LDY $nn (41 R262). -/
def execLdyZp0 (zp : Byte) (s : State) : Result := runRead 0xA4#8 (zeroPage zp) doLdy s

/-- `AC` LDY $nnnn (41 R262). -/
def execLdyAbs (addr : Word) (s : State) : Result := runRead 0xAC#8 addr doLdy s

/-- `B4` LDY $nn,X (41 R262). -/
def execLdyZpx (zp : Byte) (s : State) : Result := runRead 0xB4#8 (zeroPage zp) doLdy s

/-- `BC` LDY $nnnn,X (41 R262). -/
def execLdyAbx (addr : Word) (s : State) : Result := runRead 0xBC#8 addr doLdy s

/-- `81` STA ($nn,X) (41 R263). -/
def execStaIzx (zp : Byte) (s : State) : Result := runStore 0x81#8 (zeroPage zp) (·.a) s

/-- `85` STA $nn (41 R263). -/
def execStaZp0 (zp : Byte) (s : State) : Result := runStore 0x85#8 (zeroPage zp) (·.a) s

/-- `8D` STA $nnnn (41 R263). -/
def execStaAbs (addr : Word) (s : State) : Result := runStore 0x8D#8 addr (·.a) s

/-- `91` STA ($nn),Y (41 R263). -/
def execStaIzy (zp : Byte) (s : State) : Result := runStore 0x91#8 (zeroPage zp) (·.a) s

/-- `95` STA $nn,X (41 R263). -/
def execStaZpx (zp : Byte) (s : State) : Result := runStore 0x95#8 (zeroPage zp) (·.a) s

/-- `99` STA $nnnn,Y (41 R263). -/
def execStaAby (addr : Word) (s : State) : Result := runStore 0x99#8 addr (·.a) s

/-- `9D` STA $nnnn,X (41 R263). -/
def execStaAbx (addr : Word) (s : State) : Result := runStore 0x9D#8 addr (·.a) s

/-- `86` STX $nn (41 R264). -/
def execStxZp0 (zp : Byte) (s : State) : Result := runStore 0x86#8 (zeroPage zp) (·.x) s

/-- `8E` STX $nnnn (41 R264). -/
def execStxAbs (addr : Word) (s : State) : Result := runStore 0x8E#8 addr (·.x) s

/-- `96` STX $nn,Y (41 R264). -/
def execStxZpy (zp : Byte) (s : State) : Result := runStore 0x96#8 (zeroPage zp) (·.x) s

/-- `84` STY $nn (41 R265). -/
def execStyZp0 (zp : Byte) (s : State) : Result := runStore 0x84#8 (zeroPage zp) (·.y) s

/-- `8C` STY $nnnn (41 R265). -/
def execStyAbs (addr : Word) (s : State) : Result := runStore 0x8C#8 addr (·.y) s

/-- `94` STY $nn,X (41 R265). -/
def execStyZpx (zp : Byte) (s : State) : Result := runStore 0x94#8 (zeroPage zp) (·.y) s

/-- `X <- A; setNZ(X)` (41 R266). -/
def doTax (s : State) : State := s.loadX s.cpu.a

/-- `AA` TAX (41 R266). -/
def execTax (s : State) : Result := runImplied 0xAA#8 doTax s

/-- `Y <- A; setNZ(Y)` (41 R267). -/
def doTay (s : State) : State := s.loadY s.cpu.a

/-- `A8` TAY (41 R267). -/
def execTay (s : State) : Result := runImplied 0xA8#8 doTay s

/-- `A <- X; setNZ(A)` (41 R268). -/
def doTxa (s : State) : State := s.loadA s.cpu.x

/-- `8A` TXA (41 R268). -/
def execTxa (s : State) : Result := runImplied 0x8A#8 doTxa s

/-- `A <- Y; setNZ(A)` (41 R269). -/
def doTya (s : State) : State := s.loadA s.cpu.y

/-- `98` TYA (41 R269). -/
def execTya (s : State) : Result := runImplied 0x98#8 doTya s

/-- `X <- S; setNZ(X)` (41 R270). -/
def doTsx (s : State) : State := s.loadX s.cpu.s

/-- `BA` TSX (41 R270). -/
def execTsx (s : State) : Result := runImplied 0xBA#8 doTsx s

/-- `S <- X`, no flag (41 R271). -/
def doTxs (s : State) : State := s.setS s.cpu.x

/-- `9A` TXS (41 R271). -/
def execTxs (s : State) : Result := runImplied 0x9A#8 doTxs s

end Sys2Proof.Machine
end

