-- ==== Sys2Proof/Machine/Shift.lean ====
section
/-! DEFINITION. Increment, decrement, shift and rotate (spec/42_arithmetic_logic.md sections 5, 6). -/

namespace Sys2Proof.Machine

/-- `(M + 1) mod 256` (42 R290). -/
def incByte (_ m : Byte) : Byte := m + 1#8

/-- `setNZ(r)` after INC writes its result (42 R290). -/
def doInc (_ r : Byte) (s : State) : State := s.setP (setNZ s.cpu.p r)

/-- `E6` INC $nn (42 R290). -/
def execIncZp0 (zp : Byte) (s : State) : Result := runModify 0xE6#8 (zeroPage zp) incByte doInc s

/-- `EE` INC $nnnn (42 R290). -/
def execIncAbs (addr : Word) (s : State) : Result := runModify 0xEE#8 addr incByte doInc s

/-- `F6` INC $nn,X (42 R290). -/
def execIncZpx (zp : Byte) (s : State) : Result := runModify 0xF6#8 (zeroPage zp) incByte doInc s

/-- `FE` INC $nnnn,X (42 R290). -/
def execIncAbx (addr : Word) (s : State) : Result := runModify 0xFE#8 addr incByte doInc s

/-- `(M - 1) mod 256` (42 R291). -/
def decByte (_ m : Byte) : Byte := m - 1#8

/-- `setNZ(r)` after DEC writes its result (42 R291). -/
def doDec (_ r : Byte) (s : State) : State := s.setP (setNZ s.cpu.p r)

/-- `C6` DEC $nn (42 R291). -/
def execDecZp0 (zp : Byte) (s : State) : Result := runModify 0xC6#8 (zeroPage zp) decByte doDec s

/-- `CE` DEC $nnnn (42 R291). -/
def execDecAbs (addr : Word) (s : State) : Result := runModify 0xCE#8 addr decByte doDec s

/-- `D6` DEC $nn,X (42 R291). -/
def execDecZpx (zp : Byte) (s : State) : Result := runModify 0xD6#8 (zeroPage zp) decByte doDec s

/-- `DE` DEC $nnnn,X (42 R291). -/
def execDecAbx (addr : Word) (s : State) : Result := runModify 0xDE#8 addr decByte doDec s

/-- `X <- X + 1; setNZ(X)` (42 R292). -/
def doInx (s : State) : State := s.loadX (s.cpu.x + 1#8)

/-- `E8` INX (42 R292). -/
def execInx (s : State) : Result := runImplied 0xE8#8 doInx s

/-- `Y <- Y + 1; setNZ(Y)` (42 R293). -/
def doIny (s : State) : State := s.loadY (s.cpu.y + 1#8)

/-- `C8` INY (42 R293). -/
def execIny (s : State) : Result := runImplied 0xC8#8 doIny s

/-- `X <- X - 1; setNZ(X)` (42 R294). -/
def doDex (s : State) : State := s.loadX (s.cpu.x - 1#8)

/-- `CA` DEX (42 R294). -/
def execDex (s : State) : Result := runImplied 0xCA#8 doDex s

/-- `Y <- Y - 1; setNZ(Y)` (42 R295). -/
def doDey (s : State) : State := s.loadY (s.cpu.y - 1#8)

/-- `88` DEY (42 R295). -/
def execDey (s : State) : Result := runImplied 0x88#8 doDey s

/-- The result of `asl(m)` (42 R296). -/
def aslByte (p m : Byte) : Byte := (aslFn p m).1

/-- The flags of ASL, after its result is written (42 R296). -/
def doAsl (m _ : Byte) (s : State) : State := s.setP (shiftFlags aslFn s.cpu.p m)

/-- `06` ASL $nn (42 R296). -/
def execAslZp0 (zp : Byte) (s : State) : Result := runModify 0x06#8 (zeroPage zp) aslByte doAsl s

/-- `0A` ASL A (42 R296). -/
def execAslAcc (s : State) : Result := runModify 0x0A#8 0#16 aslByte doAsl s

/-- `0E` ASL $nnnn (42 R296). -/
def execAslAbs (addr : Word) (s : State) : Result := runModify 0x0E#8 addr aslByte doAsl s

/-- `16` ASL $nn,X (42 R296). -/
def execAslZpx (zp : Byte) (s : State) : Result := runModify 0x16#8 (zeroPage zp) aslByte doAsl s

/-- `1E` ASL $nnnn,X (42 R296). -/
def execAslAbx (addr : Word) (s : State) : Result := runModify 0x1E#8 addr aslByte doAsl s

/-- The result of `lsr(m)` (42 R297). -/
def lsrByte (p m : Byte) : Byte := (lsrFn p m).1

/-- The flags of LSR, after its result is written (42 R297). -/
def doLsr (m _ : Byte) (s : State) : State := s.setP (shiftFlags lsrFn s.cpu.p m)

/-- `46` LSR $nn (42 R297). -/
def execLsrZp0 (zp : Byte) (s : State) : Result := runModify 0x46#8 (zeroPage zp) lsrByte doLsr s

/-- `4A` LSR A (42 R297). -/
def execLsrAcc (s : State) : Result := runModify 0x4A#8 0#16 lsrByte doLsr s

/-- `4E` LSR $nnnn (42 R297). -/
def execLsrAbs (addr : Word) (s : State) : Result := runModify 0x4E#8 addr lsrByte doLsr s

/-- `56` LSR $nn,X (42 R297). -/
def execLsrZpx (zp : Byte) (s : State) : Result := runModify 0x56#8 (zeroPage zp) lsrByte doLsr s

/-- `5E` LSR $nnnn,X (42 R297). -/
def execLsrAbx (addr : Word) (s : State) : Result := runModify 0x5E#8 addr lsrByte doLsr s

/-- The result of `rol(m)` (42 R298). -/
def rolByte (p m : Byte) : Byte := (rolFn p m).1

/-- The flags of ROL, after its result is written (42 R298). -/
def doRol (m _ : Byte) (s : State) : State := s.setP (shiftFlags rolFn s.cpu.p m)

/-- `26` ROL $nn (42 R298). -/
def execRolZp0 (zp : Byte) (s : State) : Result := runModify 0x26#8 (zeroPage zp) rolByte doRol s

/-- `2A` ROL A (42 R298). -/
def execRolAcc (s : State) : Result := runModify 0x2A#8 0#16 rolByte doRol s

/-- `2E` ROL $nnnn (42 R298). -/
def execRolAbs (addr : Word) (s : State) : Result := runModify 0x2E#8 addr rolByte doRol s

/-- `36` ROL $nn,X (42 R298). -/
def execRolZpx (zp : Byte) (s : State) : Result := runModify 0x36#8 (zeroPage zp) rolByte doRol s

/-- `3E` ROL $nnnn,X (42 R298). -/
def execRolAbx (addr : Word) (s : State) : Result := runModify 0x3E#8 addr rolByte doRol s

/-- The result of `ror(m)` (42 R299). -/
def rorByte (p m : Byte) : Byte := (rorFn p m).1

/-- The flags of ROR, after its result is written (42 R299). -/
def doRor (m _ : Byte) (s : State) : State := s.setP (shiftFlags rorFn s.cpu.p m)

/-- `66` ROR $nn (42 R299). -/
def execRorZp0 (zp : Byte) (s : State) : Result := runModify 0x66#8 (zeroPage zp) rorByte doRor s

/-- `6A` ROR A (42 R299). -/
def execRorAcc (s : State) : Result := runModify 0x6A#8 0#16 rorByte doRor s

/-- `6E` ROR $nnnn (42 R299). -/
def execRorAbs (addr : Word) (s : State) : Result := runModify 0x6E#8 addr rorByte doRor s

/-- `76` ROR $nn,X (42 R299). -/
def execRorZpx (zp : Byte) (s : State) : Result := runModify 0x76#8 (zeroPage zp) rorByte doRor s

/-- `7E` ROR $nnnn,X (42 R299). -/
def execRorAbx (addr : Word) (s : State) : Result := runModify 0x7E#8 addr rorByte doRor s

end Sys2Proof.Machine
end

