-- ==== Sys2Proof/Machine/StackFlags.lean ====
section
/-! DEFINITION. Stack and flag instructions and the documented NOP (spec/43_control_stack_flags.md sections 3-5). -/

namespace Sys2Proof.Machine

/-- `P <- (pull8() & ~0x10) | 0x20` (43 R325). -/
def doPlp (s : State) : State :=
  let r := pull8 s
  r.2.setP (pulledP r.1)

/-- `28` PLP (43 R325). -/
def execPlp (s : State) : Result := runImplied 0x28#8 doPlp s

/-- `push8(A)` (43 R326). -/
def doPha (s : State) : State := push8 s s.cpu.a

/-- `48` PHA (43 R326). -/
def execPha (s : State) : Result := runImplied 0x48#8 doPha s

/-- `push8(P | 0x30)` (43 R327). -/
def doPhp (s : State) : State := push8 s (softwarePushedP s.cpu.p)

/-- `08` PHP (43 R327). -/
def execPhp (s : State) : Result := runImplied 0x08#8 doPhp s

/-- `A <- pull8(); setNZ(A)` (43 R328). -/
def doPla (s : State) : State :=
  let r := pull8 s
  r.2.loadA r.1

/-- `68` PLA (43 R328). -/
def execPla (s : State) : Result := runImplied 0x68#8 doPla s

/-- `P.C <- 0` (43 R329). -/
def doClc (s : State) : State := s.setP (withFlag s.cpu.p flagC false)

/-- `18` CLC (43 R329). -/
def execClc (s : State) : Result := runImplied 0x18#8 doClc s

/-- `P.C <- 1` (43 R330). -/
def doSec (s : State) : State := s.setP (withFlag s.cpu.p flagC true)

/-- `38` SEC (43 R330). -/
def execSec (s : State) : Result := runImplied 0x38#8 doSec s

/-- `P.I <- 0` (43 R331). -/
def doCli (s : State) : State := s.setP (withFlag s.cpu.p flagI false)

/-- `58` CLI (43 R331). -/
def execCli (s : State) : Result := runImplied 0x58#8 doCli s

/-- `P.I <- 1` (43 R332). -/
def doSei (s : State) : State := s.setP (withFlag s.cpu.p flagI true)

/-- `78` SEI (43 R332). -/
def execSei (s : State) : Result := runImplied 0x78#8 doSei s

/-- `P.D <- 0` (43 R333). -/
def doCld (s : State) : State := s.setP (withFlag s.cpu.p flagD false)

/-- `D8` CLD (43 R333). -/
def execCld (s : State) : Result := runImplied 0xD8#8 doCld s

/-- `P.D <- 1` (43 R334). -/
def doSed (s : State) : State := s.setP (withFlag s.cpu.p flagD true)

/-- `F8` SED (43 R334). -/
def execSed (s : State) : Result := runImplied 0xF8#8 doSed s

/-- `P.V <- 0` (43 R335). -/
def doClv (s : State) : State := s.setP (withFlag s.cpu.p flagV false)

/-- `B8` CLV (43 R335). -/
def execClv (s : State) : Result := runImplied 0xB8#8 doClv s

/-- `EA` NOP (43 R336). -/
def execNop (s : State) : Result := runImplied 0xEA#8 id s

end Sys2Proof.Machine
end

