-- ==== Sys2Proof/Machine/Undocumented.lean ====
section
/-! DEFINITION. The undocumented opcodes that run (spec/44_undocumented.md sections 2-4). -/

namespace Sys2Proof.Machine

/-- After the write-back: C of ASL, then `A <- A | r; setNZ(A)` (44 R351). -/
def doSlo (m r : Byte) (s : State) : State :=
  let s1 := doAsl m r s
  s1.loadA (s1.cpu.a ||| r)

/-- `03` SLO ($nn,X) (44 R351). -/
def execSloIzx (zp : Byte) (s : State) : Result := runModify 0x03#8 (zeroPage zp) aslByte doSlo s

/-- `07` SLO $nn (44 R351). -/
def execSloZp0 (zp : Byte) (s : State) : Result := runModify 0x07#8 (zeroPage zp) aslByte doSlo s

/-- `0F` SLO $nnnn (44 R351). -/
def execSloAbs (addr : Word) (s : State) : Result := runModify 0x0F#8 addr aslByte doSlo s

/-- `13` SLO ($nn),Y (44 R351). -/
def execSloIzy (zp : Byte) (s : State) : Result := runModify 0x13#8 (zeroPage zp) aslByte doSlo s

/-- `17` SLO $nn,X (44 R351). -/
def execSloZpx (zp : Byte) (s : State) : Result := runModify 0x17#8 (zeroPage zp) aslByte doSlo s

/-- `1B` SLO $nnnn,Y (44 R351). -/
def execSloAby (addr : Word) (s : State) : Result := runModify 0x1B#8 addr aslByte doSlo s

/-- `1F` SLO $nnnn,X (44 R351). -/
def execSloAbx (addr : Word) (s : State) : Result := runModify 0x1F#8 addr aslByte doSlo s

/-- After the write-back: C of ROL, then `A <- A & r; setNZ(A)` (44 R352). -/
def doRla (m r : Byte) (s : State) : State :=
  let s1 := doRol m r s
  s1.loadA (s1.cpu.a &&& r)

/-- `23` RLA ($nn,X) (44 R352). -/
def execRlaIzx (zp : Byte) (s : State) : Result := runModify 0x23#8 (zeroPage zp) rolByte doRla s

/-- `27` RLA $nn (44 R352). -/
def execRlaZp0 (zp : Byte) (s : State) : Result := runModify 0x27#8 (zeroPage zp) rolByte doRla s

/-- `2F` RLA $nnnn (44 R352). -/
def execRlaAbs (addr : Word) (s : State) : Result := runModify 0x2F#8 addr rolByte doRla s

/-- `33` RLA ($nn),Y (44 R352). -/
def execRlaIzy (zp : Byte) (s : State) : Result := runModify 0x33#8 (zeroPage zp) rolByte doRla s

/-- `37` RLA $nn,X (44 R352). -/
def execRlaZpx (zp : Byte) (s : State) : Result := runModify 0x37#8 (zeroPage zp) rolByte doRla s

/-- `3B` RLA $nnnn,Y (44 R352). -/
def execRlaAby (addr : Word) (s : State) : Result := runModify 0x3B#8 addr rolByte doRla s

/-- `3F` RLA $nnnn,X (44 R352). -/
def execRlaAbx (addr : Word) (s : State) : Result := runModify 0x3F#8 addr rolByte doRla s

/-- After the write-back: C of LSR, then `A <- A ^ r; setNZ(A)` (44 R353). -/
def doSre (m r : Byte) (s : State) : State :=
  let s1 := doLsr m r s
  s1.loadA (s1.cpu.a ^^^ r)

/-- `43` SRE ($nn,X) (44 R353). -/
def execSreIzx (zp : Byte) (s : State) : Result := runModify 0x43#8 (zeroPage zp) lsrByte doSre s

/-- `47` SRE $nn (44 R353). -/
def execSreZp0 (zp : Byte) (s : State) : Result := runModify 0x47#8 (zeroPage zp) lsrByte doSre s

/-- `4F` SRE $nnnn (44 R353). -/
def execSreAbs (addr : Word) (s : State) : Result := runModify 0x4F#8 addr lsrByte doSre s

/-- `53` SRE ($nn),Y (44 R353). -/
def execSreIzy (zp : Byte) (s : State) : Result := runModify 0x53#8 (zeroPage zp) lsrByte doSre s

/-- `57` SRE $nn,X (44 R353). -/
def execSreZpx (zp : Byte) (s : State) : Result := runModify 0x57#8 (zeroPage zp) lsrByte doSre s

/-- `5B` SRE $nnnn,Y (44 R353). -/
def execSreAby (addr : Word) (s : State) : Result := runModify 0x5B#8 addr lsrByte doSre s

/-- `5F` SRE $nnnn,X (44 R353). -/
def execSreAbx (addr : Word) (s : State) : Result := runModify 0x5F#8 addr lsrByte doSre s

/-- After the write-back: C of ROR, then `adc(r)` with that carry (44 R354). -/
def doRra (m r : Byte) (s : State) : State :=
  adc r (doRor m r s)

/-- `63` RRA ($nn,X) (44 R354). -/
def execRraIzx (zp : Byte) (s : State) : Result := runModify 0x63#8 (zeroPage zp) rorByte doRra s

/-- `67` RRA $nn (44 R354). -/
def execRraZp0 (zp : Byte) (s : State) : Result := runModify 0x67#8 (zeroPage zp) rorByte doRra s

/-- `6F` RRA $nnnn (44 R354). -/
def execRraAbs (addr : Word) (s : State) : Result := runModify 0x6F#8 addr rorByte doRra s

/-- `73` RRA ($nn),Y (44 R354). -/
def execRraIzy (zp : Byte) (s : State) : Result := runModify 0x73#8 (zeroPage zp) rorByte doRra s

/-- `77` RRA $nn,X (44 R354). -/
def execRraZpx (zp : Byte) (s : State) : Result := runModify 0x77#8 (zeroPage zp) rorByte doRra s

/-- `7B` RRA $nnnn,Y (44 R354). -/
def execRraAby (addr : Word) (s : State) : Result := runModify 0x7B#8 addr rorByte doRra s

/-- `7F` RRA $nnnn,X (44 R354). -/
def execRraAbx (addr : Word) (s : State) : Result := runModify 0x7F#8 addr rorByte doRra s

/-- After the write-back: `cmp(A, r)` (44 R355). -/
def doDcp (_ r : Byte) (s : State) : State := cmp s.cpu.a r s

/-- `C3` DCP ($nn,X) (44 R355). -/
def execDcpIzx (zp : Byte) (s : State) : Result := runModify 0xC3#8 (zeroPage zp) decByte doDcp s

/-- `C7` DCP $nn (44 R355). -/
def execDcpZp0 (zp : Byte) (s : State) : Result := runModify 0xC7#8 (zeroPage zp) decByte doDcp s

/-- `CF` DCP $nnnn (44 R355). -/
def execDcpAbs (addr : Word) (s : State) : Result := runModify 0xCF#8 addr decByte doDcp s

/-- `D3` DCP ($nn),Y (44 R355). -/
def execDcpIzy (zp : Byte) (s : State) : Result := runModify 0xD3#8 (zeroPage zp) decByte doDcp s

/-- `D7` DCP $nn,X (44 R355). -/
def execDcpZpx (zp : Byte) (s : State) : Result := runModify 0xD7#8 (zeroPage zp) decByte doDcp s

/-- `DB` DCP $nnnn,Y (44 R355). -/
def execDcpAby (addr : Word) (s : State) : Result := runModify 0xDB#8 addr decByte doDcp s

/-- `DF` DCP $nnnn,X (44 R355). -/
def execDcpAbx (addr : Word) (s : State) : Result := runModify 0xDF#8 addr decByte doDcp s

/-- After the write-back: `adc(~r & 0xFF)` (44 R356). -/
def doIsc (_ r : Byte) (s : State) : State := adc (~~~r) s

/-- `E3` ISC ($nn,X) (44 R356). -/
def execIscIzx (zp : Byte) (s : State) : Result := runModify 0xE3#8 (zeroPage zp) incByte doIsc s

/-- `E7` ISC $nn (44 R356). -/
def execIscZp0 (zp : Byte) (s : State) : Result := runModify 0xE7#8 (zeroPage zp) incByte doIsc s

/-- `EF` ISC $nnnn (44 R356). -/
def execIscAbs (addr : Word) (s : State) : Result := runModify 0xEF#8 addr incByte doIsc s

/-- `F3` ISC ($nn),Y (44 R356). -/
def execIscIzy (zp : Byte) (s : State) : Result := runModify 0xF3#8 (zeroPage zp) incByte doIsc s

/-- `F7` ISC $nn,X (44 R356). -/
def execIscZpx (zp : Byte) (s : State) : Result := runModify 0xF7#8 (zeroPage zp) incByte doIsc s

/-- `FB` ISC $nnnn,Y (44 R356). -/
def execIscAby (addr : Word) (s : State) : Result := runModify 0xFB#8 addr incByte doIsc s

/-- `FF` ISC $nnnn,X (44 R356). -/
def execIscAbx (addr : Word) (s : State) : Result := runModify 0xFF#8 addr incByte doIsc s

/-- `A <- M; X <- M; setNZ(M)` (44 R357). -/
def doLax (m : Byte) (s : State) : State := (s.loadA m).setX m

/-- `A3` LAX ($nn,X) (44 R357). -/
def execLaxIzx (zp : Byte) (s : State) : Result := runRead 0xA3#8 (zeroPage zp) doLax s

/-- `A7` LAX $nn (44 R357). -/
def execLaxZp0 (zp : Byte) (s : State) : Result := runRead 0xA7#8 (zeroPage zp) doLax s

/-- `AB` LAX #$nn (44 R357). -/
def execLaxImm (imm : Byte) (s : State) : Result := runRead 0xAB#8 (zeroPage imm) doLax s

/-- `AF` LAX $nnnn (44 R357). -/
def execLaxAbs (addr : Word) (s : State) : Result := runRead 0xAF#8 addr doLax s

/-- `B3` LAX ($nn),Y (44 R357). -/
def execLaxIzy (zp : Byte) (s : State) : Result := runRead 0xB3#8 (zeroPage zp) doLax s

/-- `B7` LAX $nn,Y (44 R357). -/
def execLaxZpy (zp : Byte) (s : State) : Result := runRead 0xB7#8 (zeroPage zp) doLax s

/-- `BF` LAX $nnnn,Y (44 R357). -/
def execLaxAby (addr : Word) (s : State) : Result := runRead 0xBF#8 addr doLax s

/-- `83` SAX ($nn,X) (44 R358). -/
def execSaxIzx (zp : Byte) (s : State) : Result := runStore 0x83#8 (zeroPage zp) (fun c => c.a &&& c.x) s

/-- `87` SAX $nn (44 R358). -/
def execSaxZp0 (zp : Byte) (s : State) : Result := runStore 0x87#8 (zeroPage zp) (fun c => c.a &&& c.x) s

/-- `8F` SAX $nnnn (44 R358). -/
def execSaxAbs (addr : Word) (s : State) : Result := runStore 0x8F#8 addr (fun c => c.a &&& c.x) s

/-- `97` SAX $nn,Y (44 R358). -/
def execSaxZpy (zp : Byte) (s : State) : Result := runStore 0x97#8 (zeroPage zp) (fun c => c.a &&& c.x) s

/-- `A <- A & M`, Z and N of it, C = N (44 R359). -/
def doAnc (m : Byte) (s : State) : State := (s.setP (ancFlags s.cpu.p s.cpu.a m)).setA (s.cpu.a &&& m)

/-- `0B` ANC #$nn (44 R359). -/
def execAncImm0B (imm : Byte) (s : State) : Result := runRead 0x0B#8 (zeroPage imm) doAnc s

/-- `2B` ANC #$nn (44 R359). -/
def execAncImm2B (imm : Byte) (s : State) : Result := runRead 0x2B#8 (zeroPage imm) doAnc s

/-- AND then LSR A (44 R360). -/
def doAlr (m : Byte) (s : State) : State := (s.setP (alrFlags s.cpu.p s.cpu.a m)).setA (alrResult s.cpu.a m)

/-- `4B` ALR #$nn (44 R360). -/
def execAlrImm (imm : Byte) (s : State) : Result := runRead 0x4B#8 (zeroPage imm) doAlr s

/-- AND then ROR A with C and V from the result (44 R361). -/
def doArr (m : Byte) (s : State) : State :=
  (s.setP (arrFlags s.cpu.p s.cpu.a m)).setA (arrResult s.cpu.p s.cpu.a m)

/-- `6B` ARR #$nn (44 R361). -/
def execArrImm (imm : Byte) (s : State) : Result := runRead 0x6B#8 (zeroPage imm) doArr s

/-- `X <- (A & X) - M`, C as in a compare (44 R362). -/
def doAxs (m : Byte) (s : State) : State :=
  (s.setP (axsFlags s.cpu.p (s.cpu.a &&& s.cpu.x) m)).setX ((s.cpu.a &&& s.cpu.x) - m)

/-- `CB` AXS #$nn (44 R362). -/
def execAxsImm (imm : Byte) (s : State) : Result := runRead 0xCB#8 (zeroPage imm) doAxs s

/-- `A, X, S <- M & S; setNZ` (44 R363). -/
def doLas (m : Byte) (s : State) : State :=
  let v := m &&& s.cpu.s
  ((s.loadA v).setX v).setS v

/-- `BB` LAS $nnnn,Y (44 R363). -/
def execLasAby (addr : Word) (s : State) : Result := runRead 0xBB#8 addr doLas s

/-- The operand is read and discarded (44 R364). -/
def doNop (_ : Byte) (s : State) : State := s

/-- `04` NOP $nn (44 R364). -/
def execNopZp004 (zp : Byte) (s : State) : Result := runRead 0x04#8 (zeroPage zp) doNop s

/-- `0C` NOP $nnnn (44 R364). -/
def execNopAbs0C (addr : Word) (s : State) : Result := runRead 0x0C#8 addr doNop s

/-- `14` NOP $nn,X (44 R364). -/
def execNopZpx14 (zp : Byte) (s : State) : Result := runRead 0x14#8 (zeroPage zp) doNop s

/-- `1A` NOP (44 R364). -/
def execNopImp1A (s : State) : Result := runImplied 0x1A#8 id s

/-- `1C` NOP $nnnn,X (44 R364). -/
def execNopAbx1C (addr : Word) (s : State) : Result := runRead 0x1C#8 addr doNop s

/-- `34` NOP $nn,X (44 R364). -/
def execNopZpx34 (zp : Byte) (s : State) : Result := runRead 0x34#8 (zeroPage zp) doNop s

/-- `3A` NOP (44 R364). -/
def execNopImp3A (s : State) : Result := runImplied 0x3A#8 id s

/-- `3C` NOP $nnnn,X (44 R364). -/
def execNopAbx3C (addr : Word) (s : State) : Result := runRead 0x3C#8 addr doNop s

/-- `44` NOP $nn (44 R364). -/
def execNopZp044 (zp : Byte) (s : State) : Result := runRead 0x44#8 (zeroPage zp) doNop s

/-- `54` NOP $nn,X (44 R364). -/
def execNopZpx54 (zp : Byte) (s : State) : Result := runRead 0x54#8 (zeroPage zp) doNop s

/-- `5A` NOP (44 R364). -/
def execNopImp5A (s : State) : Result := runImplied 0x5A#8 id s

/-- `5C` NOP $nnnn,X (44 R364). -/
def execNopAbx5C (addr : Word) (s : State) : Result := runRead 0x5C#8 addr doNop s

/-- `64` NOP $nn (44 R364). -/
def execNopZp064 (zp : Byte) (s : State) : Result := runRead 0x64#8 (zeroPage zp) doNop s

/-- `74` NOP $nn,X (44 R364). -/
def execNopZpx74 (zp : Byte) (s : State) : Result := runRead 0x74#8 (zeroPage zp) doNop s

/-- `7A` NOP (44 R364). -/
def execNopImp7A (s : State) : Result := runImplied 0x7A#8 id s

/-- `7C` NOP $nnnn,X (44 R364). -/
def execNopAbx7C (addr : Word) (s : State) : Result := runRead 0x7C#8 addr doNop s

/-- `80` NOP #$nn (44 R364). -/
def execNopImm80 (imm : Byte) (s : State) : Result := runRead 0x80#8 (zeroPage imm) doNop s

/-- `82` NOP #$nn (44 R364). -/
def execNopImm82 (imm : Byte) (s : State) : Result := runRead 0x82#8 (zeroPage imm) doNop s

/-- `89` NOP #$nn (44 R364). -/
def execNopImm89 (imm : Byte) (s : State) : Result := runRead 0x89#8 (zeroPage imm) doNop s

/-- `C2` NOP #$nn (44 R364). -/
def execNopImmC2 (imm : Byte) (s : State) : Result := runRead 0xC2#8 (zeroPage imm) doNop s

/-- `D4` NOP $nn,X (44 R364). -/
def execNopZpxD4 (zp : Byte) (s : State) : Result := runRead 0xD4#8 (zeroPage zp) doNop s

/-- `DA` NOP (44 R364). -/
def execNopImpDA (s : State) : Result := runImplied 0xDA#8 id s

/-- `DC` NOP $nnnn,X (44 R364). -/
def execNopAbxDC (addr : Word) (s : State) : Result := runRead 0xDC#8 addr doNop s

/-- `E2` NOP #$nn (44 R364). -/
def execNopImmE2 (imm : Byte) (s : State) : Result := runRead 0xE2#8 (zeroPage imm) doNop s

/-- `F4` NOP $nn,X (44 R364). -/
def execNopZpxF4 (zp : Byte) (s : State) : Result := runRead 0xF4#8 (zeroPage zp) doNop s

/-- `FA` NOP (44 R364). -/
def execNopImpFA (s : State) : Result := runImplied 0xFA#8 id s

/-- `FC` NOP $nnnn,X (44 R364). -/
def execNopAbxFC (addr : Word) (s : State) : Result := runRead 0xFC#8 addr doNop s

/-- `EB` SBC #$nn (44 R365). -/
def execSbcImmEB (imm : Byte) (s : State) : Result := runRead 0xEB#8 (zeroPage imm) doSbc s

end Sys2Proof.Machine
end

