-- ==== Sys2Proof/Machine/Cpu.lean ====
section
/-! DEFINITION. The CPU tick: phase toggle, interrupt detection, fetch and dispatch, lookahead, countdown
(spec/40_cpu_pipeline.md sections 1-3). -/

namespace Sys2Proof.Machine

/-- What a fetch reads (40 R226): the instruction at the PC and the state after the reads. -/
structure Fetched where
  instr : Instr
  st    : State
  deriving DecidableEq, Repr

/-- Read the opcode byte and then the operand bytes upward from the PC, through the CPU decode with its side effects
(40 R226, 30 R190). XAA's immediate byte is not read; its value is a `peek` that changes nothing (44 R376, log 11). -/
def fetch (s : State) : Fetched :=
  let op := memRead s s.cpu.pc
  let b := memRead op.2 (s.cpu.pc + 1#16)
  let c := memRead b.2 (s.cpu.pc + 2#16)
  match operandReads op.1 with
  | 0 => ⟨decodeBytes op.1 b.1 0#8, op.2⟩
  | 1 => ⟨decodeBytes op.1 b.1 0#8, b.2⟩
  | _ => ⟨decodeBytes op.1 b.1 c.1, c.2⟩

/-- NMI edge detection (40 R223). -/
def detectNmi (c : Cpu) (line : Bool) : Cpu :=
  { c with
    nmiPending := c.nmiPending || c.nmiEdgeDelay
    nmiEdgeDelay := line && !c.nmiLinePrev
    nmiLinePrev := line }

/-- IRQ level detection (40 R224). -/
def detectIrq (c : Cpu) (line : Bool) : Cpu :=
  { c with irqAsserted := c.irqLevelDelay, irqLevelDelay := line }

/-- Step T2 (40 R222): both detections, from the Bus's lines. -/
def detectInterrupts (s : State) : State :=
  s.setCpu (detectIrq (detectNmi s.cpu s.bus.nmiLine) s.bus.irqLine)

/-- The dispatch tick (40 R226, R227): the NMI sequence, the IRQ sequence, or the instruction at the PC. -/
def dispatch (s : State) : Result :=
  if s.cpu.nmiDue then finish (nmiSequence s)
  else if s.cpu.irqDue then finish (irqSequence s)
  else exec (fetch s).instr (fetch s).st

/-- Step T3 (40 R222): dispatch when `CyclesLeft == 0`. -/
def dispatchIfDue (s : State) : Result :=
  if s.cpu.cyclesLeft = 0#8 then dispatch s else .next s

/-- Step T4, the lookahead latch (40 R225). -/
def lookahead (c : Cpu) : Cpu :=
  if c.cyclesLeft = 1#8 then
    { c with nmiDue := c.nmiPending, irqDue := !getFlag c.p flagI && c.irqAsserted }
  else c

/-- Step T5, the countdown (40 R231). -/
def countdown (c : Cpu) : Cpu :=
  { c with cyclesLeft := c.cyclesLeft - 1#8, totalCycles := c.totalCycles + 1#64 }

/-- The acting steps T1-T5 (40 R222); a killed CPU does nothing (60 R393). -/
def actingTick (s : State) : Result :=
  if s.cpu.isKilled then .next s
  else
    andThen (dispatchIfDue (detectInterrupts s)) fun t => .next (t.setCpu (countdown (lookahead t.cpu)))

/-- `CPU_Tick()` (40 R220): the rising phase only toggles; the falling phase toggles and acts. -/
def cpuTick (s : State) : Result :=
  match s.cpu.phase with
  | .rise => .next (s.setCpu { s.cpu with phase := .fall })
  | .fall => actingTick (s.setCpu { s.cpu with phase := .rise })

end Sys2Proof.Machine
end

