-- ==== Sys2Proof/Machine/Dma.lean ====
section
/-! DEFINITION. The OAM DMA engine's step (20 R118-R120). -/

namespace Sys2Proof.Machine

/-- Replace the Bus. -/
def State.setBus (s : State) (b : Bus) : State := { s with bus := b }

/-- The wait (20 R118): RUNNING when `(k + 1) mod 2 == 0`, `k = BusCycle`. -/
def dmaWait (b : Bus) : Bus :=
  if (b.busCycle + 1#64).getLsbD 0 then b else { b with dmaState := .running }

/-- The read half of a transfer (20 R119). -/
def dmaReadStep (s : State) : State :=
  let r := memRead s (s.bus.dmaBase + BitVec.ofNat 16 s.bus.dmaCount)
  r.2.setBus { r.2.bus with dmaData := r.1, dmaReadPhase := false }

/-- The Bus after the write half: the count, and IDLE when it reaches 256 (20 R119, R120). -/
def dmaAfterWrite (b : Bus) : Bus :=
  { b with
    dmaCount := b.dmaCount + 1
    dmaReadPhase := true
    dmaState := if b.dmaCount + 1 = 256 then .idle else b.dmaState }

/-- The write half of a transfer (20 R119). -/
def dmaWriteStep (s : State) : State :=
  let s1 := memWrite s 0x2004#16 s.bus.dmaData
  s1.setBus (dmaAfterWrite s1.bus)

/-- The DMA step of a system cycle (20 R118-R120). -/
def dmaStep (s : State) : State :=
  match s.bus.dmaState with
  | .idle => s
  | .waiting => s.setBus (dmaWait s.bus)
  | .running => if s.bus.dmaReadPhase then dmaReadStep s else dmaWriteStep s

end Sys2Proof.Machine
end

