-- ==== Sys2Proof/Machine/PpuBackground.lean ====
section
/-! DEFINITION. The V updates and the background pipeline (61 R440-R452). -/

namespace Sys2Proof.Machine

/-- A visible line (61, notation). -/
def visibleLine (l : Nat) : Bool := decide (l ≤ 239)

/-- The pre-render line (61, notation). -/
def preRenderLine (l : Nat) : Bool := l == 261

/-- A render line: visible or pre-render (61, notation). -/
def renderLine (l : Nat) : Bool := visibleLine l || preRenderLine l

/-- IncrementCoarseX (61 R440). -/
def incrementCoarseX (v : VAddr) : VAddr :=
  if v &&& 0x001F#15 = 31#15 then (v &&& ~~~0x001F#15) ^^^ 0x0400#15 else v + 1#15

/-- Put a 5-bit coarse Y into `V[9:5]`. -/
def setCoarseY (v : VAddr) (y : BitVec 5) : VAddr := (v &&& ~~~0x03E0#15) ||| (y.setWidth 15 <<< 5)

/-- IncrementY (61 R441): 29 wraps and toggles, 31 wraps without toggling, 30 steps to 31. -/
def incrementY (v : VAddr) : VAddr :=
  if v.extractLsb' 12 3 < 7#3 then v + 0x1000#15
  else
    let v0 := v &&& ~~~0x7000#15
    let y := v.extractLsb' 5 5
    if y = 29#5 then setCoarseY (v0 ^^^ 0x0800#15) 0#5
    else if y = 31#5 then setCoarseY v0 0#5
    else setCoarseY v0 (y + 1#5)

/-- CopyHorizontal (61 R442). -/
def copyHorizontal (v t : VAddr) : VAddr := (v &&& ~~~0x041F#15) ||| (t &&& 0x041F#15)

/-- CopyVertical (61 R443). -/
def copyVertical (v t : VAddr) : VAddr := (v &&& ~~~0x7BE0#15) ||| (t &&& 0x7BE0#15)

/-- The dots at which the background registers shift (61 R445). -/
def bgShiftDot (h : Nat) : Bool := decide (2 ≤ h ∧ h ≤ 257) || decide (322 ≤ h ∧ h ≤ 337)

/-- The dots at which they reload (61 R446). -/
def bgReloadDot (h : Nat) : Bool :=
  (decide (9 ≤ h ∧ h ≤ 257) && (h - 1) % 8 == 0) || h == 329 || h == 337

/-- The dots at which tiles are fetched (61 R447). -/
def bgFetchDot (h : Nat) : Bool := decide (1 ≤ h ∧ h ≤ 256) || decide (321 ≤ h ∧ h ≤ 336)

/-- The shift (61 R445). -/
def bgShift (p : Ppu) : Ppu :=
  { p with
    bgPatLo := p.bgPatLo <<< 1
    bgPatHi := p.bgPatHi <<< 1
    bgAttLo := p.bgAttLo <<< 1
    bgAttHi := p.bgAttHi <<< 1 }

/-- Put a byte into the low half of a shift register. -/
def loadLow (r : BitVec 16) (b : Byte) : BitVec 16 := (r &&& 0xFF00#16) ||| b.setWidth 16

/-- An attribute bit as eight pixels. -/
def spread (b : Bool) : Byte := if b then 0xFF#8 else 0x00#8

/-- The reload (61 R446). -/
def bgReload (p : Ppu) : Ppu :=
  { p with
    bgPatLo := loadLow p.bgPatLo p.nextTileLo
    bgPatHi := loadLow p.bgPatHi p.nextTileHi
    bgAttLo := loadLow p.bgAttLo (spread (p.nextTileAttr.getLsbD 0))
    bgAttHi := loadLow p.bgAttHi (spread (p.nextTileAttr.getLsbD 1)) }

/-- `0x2000 | (V & 0x0FFF)` (61 R448). -/
def nametableAddr (v : VAddr) : PpuAddr := 0x2000#14 ||| (v.setWidth 14 &&& 0x0FFF#14)

/-- The attribute byte's address (61 R449). -/
def attributeAddr (v : VAddr) : PpuAddr :=
  0x23C0#14 ||| (v.setWidth 14 &&& 0x0C00#14) ||| ((v >>> 4).setWidth 14 &&& 0x38#14)
    ||| ((v >>> 2).setWidth 14 &&& 0x07#14)

/-- The two attribute bits of the tile (61 R449). -/
def attributeBits (v : VAddr) (a : Byte) : BitVec 2 :=
  let a1 := if v.getLsbD 6 then a >>> 4 else a
  let a2 := if v.getLsbD 1 then a1 >>> 2 else a1
  a2.setWidth 2

/-- The address of a tile's low plane row (61 R450). -/
def bgPatternAddr (p : Ppu) : PpuAddr :=
  (if p.ctrl.test 4 then 0x1000#14 else 0#14) + p.nextTileId.setWidth 14 * 16#14 + (p.v.extractLsb' 12 3).setWidth 14

/-- The fetch of a dot (61 R447-R450), by its phase `(H - 1) mod 8`. -/
def bgFetch (s : State) : State :=
  match (s.ppu.hCount - 1) % 8 with
  | 0 =>
    let r := ppuRead s (nametableAddr s.ppu.v)
    r.2.setPpu { r.2.ppu with nextTileId := r.1 }
  | 2 =>
    let r := ppuRead s (attributeAddr s.ppu.v)
    r.2.setPpu { r.2.ppu with nextTileAttr := attributeBits s.ppu.v r.1 }
  | 4 =>
    let r := ppuRead s (bgPatternAddr s.ppu)
    r.2.setPpu { r.2.ppu with nextTileLo := r.1 }
  | 6 =>
    let r := ppuRead s (bgPatternAddr s.ppu + 8#14)
    r.2.setPpu { r.2.ppu with nextTileHi := r.1 }
  | 7 => s.setPpu { s.ppu with v := incrementCoarseX s.ppu.v }
  | _ => s

/-- The V updates other than IncrementCoarseX (61 R451). -/
def bgUpdateV (p : Ppu) : Ppu :=
  if p.hCount = 256 then { p with v := incrementY p.v }
  else if p.hCount = 257 then { p with v := copyHorizontal p.v p.t }
  else if preRenderLine p.vCount && decide (280 ≤ p.hCount ∧ p.hCount ≤ 304) then
    { p with v := copyVertical p.v p.t }
  else p

/-- The shift at its dots (61 R445). -/
def bgShiftStage (s : State) : State := if bgShiftDot s.ppu.hCount then s.setPpu (bgShift s.ppu) else s

/-- The reload at its dots (61 R446). -/
def bgReloadStage (s : State) : State := if bgReloadDot s.ppu.hCount then s.setPpu (bgReload s.ppu) else s

/-- The fetch at its dots (61 R447). -/
def bgFetchStage (s : State) : State := if bgFetchDot s.ppu.hCount then bgFetch s else s

/-- Step S2 on a render line with rendering enabled (61 R444): shift, reload, fetch, V update. -/
def bgDot (s : State) : State :=
  let t := bgFetchStage (bgReloadStage (bgShiftStage s))
  t.setPpu (bgUpdateV t.ppu)

/-- Whether the background shows at pixel `x`: the mask bit and the left-column clip (61 R452, R469). -/
def bgShown (p : Ppu) (x : Nat) : Bool := p.mask.test 3 && !(decide (x < 8) && !p.mask.test 1)

/-- Two bits as a number, high bit first. -/
def twoBits (hi lo : Bool) : BitVec 2 := BitVec.ofBool hi ++ BitVec.ofBool lo

/-- `(bgPix, bgPal)` of the pixel at `x` (61 R452). -/
def bgPixel (p : Ppu) (x : Nat) : BitVec 2 × BitVec 2 :=
  if bgShown p x then
    let b := 15 - p.x.toNat
    (twoBits (p.bgPatHi.getLsbD b) (p.bgPatLo.getLsbD b), twoBits (p.bgAttHi.getLsbD b) (p.bgAttLo.getLsbD b))
  else (0#2, 0#2)

end Sys2Proof.Machine
end

