-- ==== Sys2Proof/Machine/PpuSprite.lean ====
section
/-! DEFINITION. Sprite evaluation, sprite line commit and fetch, sprite shifters (61 R453-R467). -/

namespace Sys2Proof.Machine

/-- The sprite height (61 R455). -/
def spriteHeight (m : SpriteSizeMode) (p : Ppu) : Nat :=
  match m with
  | .fixed8 => 8
  | .ctrl => if p.ctrl.test 5 then 16 else 8

/-- The in-range test `0 <= L - y < h` (61 R455). -/
def spriteInRange (line : Nat) (y : Byte) (height : Nat) : Bool :=
  decide (y.toNat ≤ line ∧ line - y.toNat < height)

/-- A byte of secondary OAM. -/
def secOamByte (p : Ppu) (i : Nat) : Byte := p.secOam.getD i 0xFF#8

/-- Store a byte in secondary OAM. -/
def setSecOam (p : Ppu) (i : Nat) (v : Byte) : Ppu := { p with secOam := p.secOam.set i v }

/-- The evaluation reset of dot 1 (61 R454). -/
def evalReset (p : Ppu) : Ppu := { p with evalFound := 0, spr0Next := false, evalState := .done }

/-- The evaluation start of dot 65 (61 R454). -/
def evalStart (p : Ppu) : Ppu := { p with evalN := 0, evalM := 0, evalState := .newSprite }

/-- The read of an odd dot (61 R456). -/
def evalRead (p : Ppu) : Ppu :=
  match p.evalState with
  | .newSprite | .copySprite => { p with evalLatch := Memory.read p.oam (4 * p.evalN + p.evalM) }
  | .overflow | .done => p

/-- The NEW_SPRITE step (61 R457). -/
def evalNewSprite (m : SpriteSizeMode) (p : Ppu) : Ppu :=
  let q := setSecOam p (4 * p.evalFound) p.evalLatch
  if spriteInRange p.vCount p.evalLatch (spriteHeight m p) then
    { q with
      spr0Next := if p.evalN = 0 then true else p.spr0Next
      evalM := 1
      evalState := .copySprite }
  else
    { q with
      evalN := p.evalN + 1
      evalState := if p.evalN + 1 = 64 then .done else .newSprite }

/-- The COPY_SPRITE step (61 R458). -/
def evalCopySprite (p : Ppu) : Ppu :=
  let q := setSecOam p (4 * p.evalFound + p.evalM) p.evalLatch
  if p.evalM + 1 = 4 then
    { q with
      evalM := 0
      evalFound := p.evalFound + 1
      evalN := p.evalN + 1
      evalState :=
        if p.evalN + 1 = 64 then .done
        else if p.evalFound + 1 = 8 then .overflow
        else .newSprite }
  else { q with evalM := p.evalM + 1 }

/-- The OVERFLOW step: count on, never setting the flag (61 R459, R466). -/
def evalOverflow (p : Ppu) : Ppu :=
  { p with
    evalN := p.evalN + 1
    evalState := if p.evalN + 1 = 64 then .done else .overflow }

/-- The step of an even dot (61 R457-R459). -/
def evalStep (m : SpriteSizeMode) (p : Ppu) : Ppu :=
  match p.evalState with
  | .newSprite => evalNewSprite m p
  | .copySprite => evalCopySprite p
  | .overflow => evalOverflow p
  | .done => p

/-- Step S5 on a visible line at `1 <= H <= 256` (61 R453, R454, R456-R459); `r` is rendering enabled. -/
def evalDot (m : SpriteSizeMode) (r : Bool) (p : Ppu) : Ppu :=
  let h := p.hCount
  if h = 1 then evalReset p
  else if !r then p
  else if h ≤ 64 then (if h % 2 = 0 then setSecOam p (h / 2 - 1) 0xFF#8 else p)
  else if h = 65 then evalRead (evalStart p)
  else if h % 2 = 1 then evalRead p
  else evalStep m p

/-- The sprite line commit of dot 257 (61 R460). -/
def spriteCommit (r : Bool) (p : Ppu) : Ppu :=
  if visibleLine p.vCount && r then { p with sprCount := p.evalFound, spr0InLine := p.spr0Next }
  else { p with sprCount := 0, spr0InLine := false }

/-- A byte with its bits in the opposite order (61 R463). -/
def reverseByte (b : Byte) : Byte :=
  BitVec.ofBool (b.getLsbD 0) ++ BitVec.ofBool (b.getLsbD 1) ++ BitVec.ofBool (b.getLsbD 2)
    ++ BitVec.ofBool (b.getLsbD 3) ++ BitVec.ofBool (b.getLsbD 4) ++ BitVec.ofBool (b.getLsbD 5)
    ++ BitVec.ofBool (b.getLsbD 6) ++ BitVec.ofBool (b.getLsbD 7)

/-- Slot `i` of the sprite line. -/
def spriteSlot (p : Ppu) (i : Nat) : SprSlot := p.sprites.getD i SprSlot.zero

/-- Replace slot `i`. -/
def setSlot (p : Ppu) (i : Nat) (sl : SprSlot) : Ppu := { p with sprites := p.sprites.set i sl }

/-- The row of the sprite in slot `i` on this line, modulo 2^16 (61 R462, log 12). -/
def spriteRow (p : Ppu) (i : Nat) : Word := BitVec.ofNat 16 p.vCount - (secOamByte p (4 * i)).setWidth 16

/-- The address of the sprite's low plane row (61 R462), 16-bit arithmetic before the 14-bit mask (log 12). -/
def spritePatternAddr (m : SpriteSizeMode) (p : Ppu) (i : Nat) : PpuAddr :=
  let t := (secOamByte p (4 * i + 1)).setWidth 16
  let row := spriteRow p i
  let vf := (spriteSlot p i).attr.getLsbD 7
  let addr : Word :=
    if spriteHeight m p = 16 then
      let r := if vf then 15#16 - row else row
      (t &&& 1#16) * 0x1000#16 + ((t &&& 0xFE#16) + (if 8#16 ≤ r then 1#16 else 0#16)) * 16#16 + (r &&& 7#16)
    else
      let r := if vf then 7#16 - row else row
      (if p.ctrl.test 3 then 0x1000#16 else 0#16) + t * 16#16 + r
  addr.setWidth 14

/-- A fetched pattern byte as it is stored: reversed under horizontal flip (61 R463). -/
def flipped (attr b : Byte) : Byte := if attr.getLsbD 6 then reverseByte b else b

/-- The attribute and X latch of phase 2 (61 R461). -/
def spriteFetchAttr (p : Ppu) (i : Nat) : Ppu :=
  setSlot p i { spriteSlot p i with attr := secOamByte p (4 * i + 2), x := secOamByte p (4 * i + 3) }

/-- The low pattern byte of phase 4 (61 R461-R464). -/
def spriteFetchLo (s : State) (i : Nat) : State :=
  if i < s.ppu.sprCount then
    let r := ppuRead s (spritePatternAddr s.params.spriteSize s.ppu i)
    let sl := spriteSlot r.2.ppu i
    r.2.setPpu (setSlot r.2.ppu i { sl with patLo := flipped sl.attr r.1 })
  else s.setPpu (setSlot s.ppu i { spriteSlot s.ppu i with patLo := 0#8 })

/-- The high pattern byte of phase 6 (61 R461-R464). -/
def spriteFetchHi (s : State) (i : Nat) : State :=
  if i < s.ppu.sprCount then
    let r := ppuRead s (spritePatternAddr s.params.spriteSize s.ppu i + 8#14)
    let sl := spriteSlot r.2.ppu i
    r.2.setPpu (setSlot r.2.ppu i { sl with patHi := flipped sl.attr r.1 })
  else s.setPpu (setSlot s.ppu i { spriteSlot s.ppu i with patHi := 0#8 })

/-- The fetch of a dot of `257 <= H <= 320` on a visible line with rendering enabled (61 R461). -/
def spriteFetch (s : State) : State :=
  let i := (s.ppu.hCount - 257) / 8
  match (s.ppu.hCount - 257) % 8 with
  | 2 => s.setPpu (spriteFetchAttr s.ppu i)
  | 4 => spriteFetchLo s i
  | 6 => spriteFetchHi s i
  | _ => s

/-- The sprite line commit at its dot (61 R460). -/
def spriteCommitStage (r : Bool) (s : State) : State :=
  if s.ppu.hCount = 257 then s.setPpu (spriteCommit r s.ppu) else s

/-- The sprite fetch on a visible line with rendering enabled (61 R461). -/
def spriteFetchStage (r : Bool) (s : State) : State := if visibleLine s.ppu.vCount && r then spriteFetch s else s

/-- Step S6 on a render line at `257 <= H <= 320` (61 R460, R461). -/
def spriteLineDot (r : Bool) (s : State) : State := spriteFetchStage r (spriteCommitStage r s)

/-- One slot's shifter (61 R467). -/
def shiftSlot (sl : SprSlot) : SprSlot :=
  if sl.x = 0#8 then { sl with patLo := sl.patLo <<< 1, patHi := sl.patHi <<< 1 } else { sl with x := sl.x - 1#8 }

/-- Step S3 (61 R467): the active slots shift or count down. -/
def shiftSprites (p : Ppu) : Ppu :=
  { p with sprites := (p.sprites.take p.sprCount).map shiftSlot ++ p.sprites.drop p.sprCount }

end Sys2Proof.Machine
end

