-- ==== Sys2Proof/Machine/PpuOutput.lean ====
section
/-! DEFINITION. Compositing, sprite-0 hit and pixel output (61 R468-R473, R478). -/

namespace Sys2Proof.Machine

/-- Whether sprites show at pixel `x`: the mask bit and the left-column clip (61 R468, R469). -/
def sprShown (p : Ppu) (x : Nat) : Bool := p.mask.test 4 && !(decide (x < 8) && !p.mask.test 2)

/-- The current pixel of a slot: 0 unless its X counter has run out (61 R468). -/
def slotPixel (sl : SprSlot) : BitVec 2 :=
  if sl.x = 0#8 then twoBits (sl.patHi.getLsbD 7) (sl.patLo.getLsbD 7) else 0#2

/-- What the sprite scan finds (61 R468): the pixel, the palette, the priority bit and the slot. -/
structure SprPixel where
  pix    : BitVec 2
  pal    : BitVec 3
  behind : Bool
  slot   : Nat
  deriving DecidableEq, Repr

/-- Scan the slots from index `i` for the first opaque pixel (61 R468). -/
def scanSlots (slots : List SprSlot) (i : Nat) : Option SprPixel :=
  match slots with
  | [] => none
  | sl :: rest =>
    if slotPixel sl = 0#2 then scanSlots rest (i + 1)
    else some ⟨slotPixel sl, 1#1 ++ sl.attr.setWidth 2, sl.attr.getLsbD 5, i⟩

/-- The sprite pixel at `x`, if any is opaque (61 R468). -/
def spritePixel (p : Ppu) (x : Nat) : Option SprPixel :=
  if sprShown p x then scanSlots (p.sprites.take p.sprCount) 0 else none

/-- The sprite-0 hit condition at dot `h` (61 R470). -/
def spriteZeroHit (p : Ppu) (h : Nat) (bgPix : BitVec 2) (spr : Option SprPixel) : Bool :=
  match spr with
  | none => false
  | some sp =>
    p.spr0InLine && sp.slot == 0 && bgPix != 0#2 && sp.pix != 0#2 && p.mask.test 3 && p.mask.test 4
      && decide (2 ≤ h ∧ h < 257) && h != 255

/-- The priority multiplexer, with pixel 0 forced to palette 0 (61 R471, R472): `(pix, pal)`. -/
def muxPixel (bg : BitVec 2 × BitVec 2) (spr : Option SprPixel) : BitVec 2 × BitVec 3 :=
  let chosen : BitVec 2 × BitVec 3 :=
    match spr with
    | none => (bg.1, bg.2.setWidth 3)
    | some sp => if bg.1 = 0#2 ∨ sp.behind = false then (sp.pix, sp.pal) else (bg.1, bg.2.setWidth 3)
  if chosen.1 = 0#2 then (0#2, 0#3) else chosen

/-- The palette address `0x3F00 + pal * 4 + pix` (61 R478). -/
def pixelAddr (pp : BitVec 2 × BitVec 3) : PpuAddr :=
  0x3F00#14 + pp.2.setWidth 14 * 4#14 + pp.1.setWidth 14

/-- The colour the sink receives with a pixel (61 R478). -/
def Pixel.rgb (px : Pixel) : BitVec 24 := Config.paletteFile px.idx

/-- Hand a pixel to the sink (61 R478). -/
def emitPixel (s : State) (px : Pixel) : State :=
  { s with out := { s.out with pixels := s.out.pixels ++ [px] } }

/-- Step S4 on a visible line at `1 <= H <= 256` (61 R473). -/
def compositeDot (s : State) : State :=
  let x := s.ppu.hCount - 1
  let bg := bgPixel s.ppu x
  let spr := spritePixel s.ppu x
  let s1 :=
    if spriteZeroHit s.ppu s.ppu.hCount bg.1 spr then s.setPpu { s.ppu with status := s.ppu.status.set 6 } else s
  let r := ppuRead s1 (pixelAddr (muxPixel bg spr))
  emitPixel r.2 ⟨x, s.ppu.vCount, r.1.setWidth 6⟩

end Sys2Proof.Machine
end

