-- ==== Sys2Proof/Machine/PpuDot.lean ====
section
/-! DEFINITION. The dot machine: status events, the order S1-S8 of a dot, the NMI output, the counters
(61 R421-R427). -/

namespace Sys2Proof.Machine

/-- Step S1: the vblank set (61 R425) and the pre-render clear (61 R426). -/
def statusEvents (p : Ppu) : Ppu :=
  if p.vCount = 241 ∧ p.hCount = 1 then { p with status := p.status.set 7 }
  else if p.vCount = 261 ∧ p.hCount = 1 then
    { p with status := ((p.status.clear 7).clear 6).clear 5 }
  else p

/-- The level S7 puts on the NMI line: `Status.current[7] & Ctrl.current[7]` (61 R427). -/
def nmiLevel (p : Ppu) : Bool := p.status.test 7 && p.ctrl.test 7

/-- The skipped dot's condition (61 R423). -/
def skipsDot (r : Bool) (p : Ppu) : Bool := p.vCount == 261 && r && !p.isEvenFrame

/-- Step S8: the counter advance (61 R422, R423). -/
def advanceDot (r : Bool) (p : Ppu) : Ppu :=
  let h := p.hCount + 1
  if h = 341 ∨ (h = 340 ∧ skipsDot r p = true) then
    if p.vCount + 1 = 262 then { p with hCount := 0, vCount := 0, isEvenFrame := !p.isEvenFrame }
    else { p with hCount := 0, vCount := p.vCount + 1 }
  else { p with hCount := h }

/-- Step S3's condition (61 R421). -/
def shiftsSprites (r : Bool) (p : Ppu) : Bool :=
  r && visibleLine p.vCount && decide (2 ≤ p.hCount ∧ p.hCount ≤ 257)

/-- Step S4's and S5's condition: a visible line at `1 <= H <= 256` (61 R421). -/
def visibleDot (p : Ppu) : Bool := visibleLine p.vCount && decide (1 ≤ p.hCount ∧ p.hCount ≤ 256)

/-- Step S6's condition (61 R421). -/
def spriteLineDots (p : Ppu) : Bool := renderLine p.vCount && decide (257 ≤ p.hCount ∧ p.hCount ≤ 320)

/-- Step S1: status events (61 R425, R426). -/
def dotS1 (s : State) : State := s.setPpu (statusEvents s.ppu)

/-- Step S2: the background pipeline on a render line, if rendering is enabled (61 R444). -/
def dotS2 (r : Bool) (s : State) : State := if r && renderLine s.ppu.vCount then bgDot s else s

/-- Step S3: the sprite shifters (61 R467). -/
def dotS3 (r : Bool) (s : State) : State := if shiftsSprites r s.ppu then s.setPpu (shiftSprites s.ppu) else s

/-- Step S4: compositing and pixel output (61 R473). -/
def dotS4 (s : State) : State := if visibleDot s.ppu then compositeDot s else s

/-- Step S5: sprite evaluation (61 R453-R459). -/
def dotS5 (r : Bool) (s : State) : State :=
  if visibleDot s.ppu then s.setPpu (evalDot s.params.spriteSize r s.ppu) else s

/-- Step S6: sprite line commit and fetch (61 R460-R465). -/
def dotS6 (r : Bool) (s : State) : State := if spriteLineDots s.ppu then spriteLineDot r s else s

/-- Step S7: the NMI output (61 R427). -/
def dotS7 (s : State) : State := s.setBus { s.bus with nmiLine := nmiLevel s.ppu }

/-- Step S8: the counter advance (61 R422, R423). -/
def dotS8 (r : Bool) (s : State) : State := s.setPpu (advanceDot r s.ppu)

/-- Steps S1-S6 of a dot; `r` is rendering enabled. -/
def dotBody (r : Bool) (s : State) : State := dotS6 r (dotS5 r (dotS4 (dotS3 r (dotS2 r (dotS1 s)))))

/-- `PPU_Dot()` (61 R421). Rendering enabled is read once, at the start of the dot. -/
def ppuDot (s : State) : State :=
  let r := renderingEnabled s.ppu
  dotS8 r (dotS7 (dotBody r s))

/-- One dot of a system cycle: `PpuPhase <- j; PPU_Dot(); PPU_ClockRegisters()` (70 R520). -/
def ppuDotAt (j : Nat) (s : State) : State :=
  let t := ppuDot (s.setPpu { s.ppu with ppuPhase := j })
  t.setPpu (ppuClockRegisters t.ppu)

/-- The three dots of a system cycle (70 R520). -/
def ppuDots (s : State) : State := ppuDotAt 2 (ppuDotAt 1 (ppuDotAt 0 s))

end Sys2Proof.Machine
end

