-- ==== Sys2Proof/Machine/Cycle.lean ====
section
/-! DEFINITION. The system cycle (70 R520), and placing an instruction where the next step fetches it. -/

namespace Sys2Proof.Machine

/-- `IRQ_LINE(k)` (60 R382, log 4). -/
def irqLevel (p : Params) (k : BitVec 64) : Bool := if p.irqFlips.contains k then !p.irqRest else p.irqRest

/-- Step (1) of a system cycle, with the outputs of the cycle before put away (log 6). -/
def sampleInputs (s : State) : State :=
  { s with
    out := ⟨[], []⟩
    bus := { s.bus with irqLine := irqLevel s.params s.bus.busCycle } }

/-- Step (2): two CPU ticks unless DMA is RUNNING, tested once (70 R520, 20 R121). -/
def cpuPart (s : State) : Result :=
  match s.bus.dmaState with
  | .running => .next s
  | .idle | .waiting => andThen (cpuTick s) cpuTick

/-- Step (5): `BusCycle <- BusCycle + 1`. -/
def countCycle (s : State) : State := s.setBus { s.bus with busCycle := s.bus.busCycle + 1#64 }

/-- System cycle `k = BusCycle` (70 R520): IRQ sample, CPU, DMA, three dots, count. -/
def systemCycle (s : State) : Result :=
  andThen (cpuPart (sampleInputs s)) fun t => finish (countCycle (ppuDots (dmaStep t)))

/-- A step from a state: a state marked refused has no next (00 R15). -/
def stepFrom (s : State) : Result :=
  match s.refusal with
  | none => systemCycle s
  | some r => .refused r

/-- Whether the CPU address is plain storage: RAM, PRG RAM or PRG ROM. -/
def storable (a : Word) : Bool := decide (a < 0x2000#16) || decide (0x6000#16 ≤ a)

/-- Put a byte where a CPU read of the storable address `a` finds it. -/
def place (s : State) (a : Word) (v : Byte) : State :=
  if a < 0x2000#16 then { s with bus := { s.bus with ram := Memory.write s.bus.ram (ramIndex a) v } }
  else if a < 0x8000#16 then { s with cart := { s.cart with prgRam := Memory.write s.cart.prgRam (prgRamIndex a) v } }
  else { s with cart := { s.cart with rom := Memory.write s.cart.rom (prgOffset s.cart a) v } }

/-- The PC if the three bytes from it on are plain storage, else `0x0000`, the start of RAM. -/
def placementPc (pc : Word) : Word :=
  if storable pc && storable (pc + 1#16) && storable (pc + 2#16) then pc else 0x0000#16

/-- The state in which the very next step fetches the instruction whose three bytes are the low bytes of `v`: the bytes
stored from the PC on, and the CPU at a dispatch with no interrupt due, no DMA running, not killed and not refused
(log 1). -/
def placeInstr (s : State) (v : Nat) : State :=
  let pc := placementPc s.cpu.pc
  let s1 := place s pc (BitVec.ofNat 8 v)
  let s2 := place s1 (pc + 1#16) (BitVec.ofNat 8 (v / 256))
  let s3 := place s2 (pc + 2#16) (BitVec.ofNat 8 (v / 65536))
  let s4 := s3.setCpu { s3.cpu with
    pc := pc, cyclesLeft := 0#8, nmiDue := false, irqDue := false, isKilled := false }
  let s5 := s4.setBus { s4.bus with dmaState := if s4.bus.dmaState = .running then .idle else s4.bus.dmaState }
  { s5 with refusal := none }

end Sys2Proof.Machine
end

