-- ==== Sys2Proof/Machine/Step.lean ====
section
/-! DEFINITION. The step: one system cycle (70 R520). -/

namespace Sys2Proof.Machine

/-- One step: `Cycle()` of 70 R524. -/
def step (s : State) : Host.Outcome State Fault Refusal := stepFrom s

/-- `s` with the instruction whose bits are `w` placed where the very next step fetches it (log 1). -/
def State.withFetchWord (s : State) (nbits w : Nat) : State := placeInstr s (w % 2 ^ nbits)

end Sys2Proof.Machine
end

