-- ==== Sys2Proof/Machine/Reset.lean ====
section
/-! DEFINITION. The host's operations: power-on, reset, the forced PC, the trace snapshot, the killed outcome
(70 R500-R504, R523, R524, R526, 40 R248). -/

namespace Sys2Proof.Machine

/-- The CPU reset (70 R500). -/
def cpuReset (s : State) : State :=
  let v := read16 s resetVector
  v.2.setCpu (Cpu.afterReset v.2.cpu.a v.2.cpu.x v.2.cpu.y v.1)

/-- Status across a PPU reset: bits 7:5 of both halves kept (70 R501). -/
def statusReset (r : Clocked) : Clocked := ⟨r.current &&& 0xE0#8, r.new &&& 0xE0#8⟩

/-- The PPU reset (70 R501). -/
def ppuReset (s : State) : State := s.setPpu (Ppu.afterReset (statusReset s.ppu.status) s.ppu.v s.ppu.oam)

/-- The Bus reset (70 R502). -/
def busReset (s : State) : State :=
  s.setBus { s.bus with
    dmaState := .idle, dmaBase := 0#16, dmaCount := 0, dmaData := 0#8, dmaReadPhase := true, nmiLine := false }

/-- `Reset()` (70 R504): Bus, then PPU, then CPU. -/
def State.systemReset (s : State) : State := cpuReset (ppuReset (busReset s))

/-- The mapper of a supported ID (21 R150). -/
def mapperOf (id : Nat) : Option Mapper :=
  match id with
  | 0 => some .nrom
  | 1 => some .mmc1
  | _ => none

/-- The mapper ID of a header: `((Flags6 >> 4) & 0xF) | (Flags7 & 0xF0)` (00 R8). -/
def headerMapperId (flags6 flags7 : Byte) : Nat := (((flags6 >>> 4) &&& 0x0F#8) ||| (flags7 &&& 0xF0#8)).toNat

/-- The mirroring of a header: Flags6 bit 3 gives FOUR, else bit 0 gives VERTICAL (00 R8). -/
def headerMirror (flags6 : Byte) : HeaderMirror :=
  if flags6.getLsbD 3 then .four else if flags6.getLsbD 0 then .vertical else .horizontal

/-- The battery bit of a header: Flags6 bit 1 (00 R8). -/
def headerBattery (flags6 : Byte) : Bool := flags6.getLsbD 1

/-- The cartridge at power-on (10 R61, R62, 21 R171). -/
def cartPowerOn (c : Cartridge) (m : Mapper) (prgRam : Memory) : Cart :=
  { mapper := m, prgBanks := c.prgBanks, chrBanks := c.chrBanks, mirror := c.mirror, battery := c.battery,
    rom := Memory.ofCells c.rom, prgRam := prgRam,
    shift := 0x10#5, control := Cart.powerOnControl c.mirror, chrBank0 := 0#5, chrBank1 := 0#5, prgBank := 0#5 }

/-- The machine at power-on, before the reset that follows (70 R503): every clocked register by
`writeImmediate(0)`, the CPU's other state at its reset values, the stores as given. -/
def powerOnState (c : Cartridge) (m : Mapper) (prm : Params) (v : PowerOnValues) : State :=
  { cpu := Cpu.afterReset v.a v.x v.y 0#16,
    ppu := Ppu.afterReset (Clocked.zero.writeImmediate 0#8) 0#15 (Memory.ofCells v.oam),
    bus := Bus.powerOn (Memory.ofCells v.ram) (Memory.ofCells v.vram) (Memory.ofCells v.palette)
      (Memory.ofCells v.pattern),
    cart := cartPowerOn c m (Memory.ofCells v.prgRam),
    params := prm,
    out := ⟨[], []⟩,
    refusal := none }

/-- `PowerOn(cartridge, params)` (70 R503, R524): an unsupported mapper and a cartridge with no PRG bank are refused
(21 R150); otherwise power-on and one system reset. -/
def State.powerOn (c : Cartridge) (prm : Params) (v : PowerOnValues) : Result :=
  match mapperOf c.mapperId with
  | none => .refused .unsupportedMapper
  | some m => if c.prgOk then finish (powerOnState c m prm v).systemReset else .refused .noPrgBanks

/-- The host forces the PC after a reset (70 R526). -/
def State.forcePc (s : State) (pc : Word) : State := { s with cpu := { s.cpu with pc := pc } }

/-- A line of the trace: PC, A, X, Y, P, S, TotalCycles (40 R248). -/
structure Snapshot where
  pc          : Word
  a           : Byte
  x           : Byte
  y           : Byte
  p           : Byte
  s           : Byte
  totalCycles : BitVec 64
  deriving DecidableEq, Repr

/-- The trace snapshot (40 R248). -/
def State.snapshot (s : State) : Snapshot :=
  ⟨s.cpu.pc, s.cpu.a, s.cpu.x, s.cpu.y, s.cpu.p, s.cpu.s, s.cpu.totalCycles⟩

/-- What the host is told when it asks whether the CPU can still run (70 R523). -/
inductive CpuOutcome where
  | running | killed
  deriving DecidableEq, Repr

/-- The killed CPU as a distinct stop, neither a fault nor an end of the run (60 R393, 70 R523). -/
def State.cpuOutcome (s : State) : CpuOutcome := if s.cpu.isKilled then .killed else .running

end Sys2Proof.Machine
end

