-- ==== Sys2Proof/Safety.lean ====
section
/-! DEFINITION. What claims are stated in: when an instruction can run to its end, the invariant of the machine, and what
a storing instruction stores to. -/

namespace Sys2Proof.Machine

/-- Every access of an instruction has an answer: the state is not marked refused, and nametable accesses are not under
FOUR (20 R114), the one access the spec refuses. -/
abbrev State.Ready (s : State) : Prop := s.refusal = none ∧ mirrorMode s.cart ≠ .four

/-- The CPU's part of the invariant: the stored B bits (10 R39), the phase between system cycles (70 R520), and the
longest count left after a tick (30 R196, 40 R231). -/
abbrev Cpu.Inv (c : Cpu) : Prop :=
  getFlag c.p flagB0 = false ∧ getFlag c.p flagB1 = true ∧ c.phase = .rise ∧ c.cyclesLeft ≤ 7#8

/-- Status bits 5:0 are 0 in both halves (10 R46, 61 R466). -/
abbrev Ppu.StatusInv (p : Ppu) : Prop :=
  p.status.current &&& 0x3F#8 = 0#8 ∧ p.status.new &&& 0x3F#8 = 0#8

/-- The ranges of the position counters (10 R52). -/
abbrev Ppu.PositionInv (p : Ppu) : Prop := p.hCount ≤ 340 ∧ p.vCount ≤ 261 ∧ p.ppuPhase ≤ 2

/-- The ranges of the evaluation sub-machine and the sizes of secondary OAM and the slots (10 R55, R56); between the
evaluation's reset and its start nothing has been found (61 R454). -/
abbrev Ppu.SpriteInv (p : Ppu) : Prop :=
  p.secOam.length = 32 ∧ p.sprites.length = 8 ∧ p.sprCount ≤ 8 ∧
  p.evalN ≤ 64 ∧ p.evalM ≤ 3 ∧ p.evalFound ≤ 8 ∧
  (p.evalState = .newSprite → p.evalN < 64 ∧ p.evalFound < 8 ∧ p.evalM = 0) ∧
  (p.evalState = .copySprite → p.evalN < 64 ∧ p.evalFound < 8 ∧ 1 ≤ p.evalM) ∧
  (p.evalState = .overflow → p.evalN < 64) ∧
  (p.vCount ≤ 239 ∧ 2 ≤ p.hCount ∧ p.hCount ≤ 65 → p.evalFound = 0 ∧ p.evalState = .done)

/-- The PPU's part of the invariant; primary OAM is 256 bytes in canonical form (10 R54). -/
abbrev Ppu.Inv (p : Ppu) : Prop :=
  p.StatusInv ∧ p.PositionInv ∧ p.SpriteInv ∧ Memory.wf p.oam ∧ Memory.within p.oam 256

/-- The Bus's part of the invariant: the sizes of its stores (10 R57), no byte at a palette alias (20 R115), and the
DMA counters (10 R59, 20 R117, R120). -/
abbrev Bus.Inv (b : Bus) : Prop :=
  Memory.wf b.ram ∧ Memory.within b.ram 0x800 ∧
  Memory.wf b.vram ∧ Memory.within b.vram 0x800 ∧
  Memory.wf b.palette ∧ Memory.within b.palette 0x20 ∧
  (∀ c ∈ b.palette, c.1 ≠ 0x10 ∧ c.1 ≠ 0x14 ∧ c.1 ≠ 0x18 ∧ c.1 ≠ 0x1C) ∧
  Memory.wf b.pattern ∧ Memory.within b.pattern 0x2000 ∧
  b.dmaCount ≤ 256 ∧ (b.dmaState ≠ .idle → b.dmaCount < 256) ∧ loByte b.dmaBase = 0#8

/-- The cartridge's part of the invariant: its stores (10 R61), at least one PRG bank (21 R150), and the marker bit that
is always somewhere in MMC1's shift register (21 R170). -/
abbrev Cart.Inv (c : Cart) : Prop :=
  Memory.wf c.rom ∧ Memory.wf c.prgRam ∧ Memory.within c.prgRam 0x2000 ∧ 1 ≤ c.prgBanks ∧ c.shift ≠ 0#5

/-- The invariant every step keeps. -/
abbrev State.Inv (s : State) : Prop :=
  s.refusal = none ∧ s.cpu.Inv ∧ s.ppu.Inv ∧ s.bus.Inv ∧ s.cart.Inv

/-- The two CPU addresses name the same byte of plain storage: RAM and its mirrors (20 R103), or PRG RAM. -/
abbrev sameCell (a b : Word) : Prop :=
  (a < 0x2000#16 ∧ b < 0x2000#16 ∧ ramIndex a = ramIndex b) ∨
  (0x6000#16 ≤ a ∧ a < 0x8000#16 ∧ a = b)

/-- The RAM index of the stack address `0x0100 | S` (10 R37, 20 R101). -/
def stackIndex (sp : Byte) : Nat := 0x100 + sp.toNat

/-- The opcodes that store to their effective address: the stores and SAX. -/
def storeOpcodes : List Byte :=
  [0x81#8, 0x85#8, 0x8D#8, 0x91#8, 0x95#8, 0x99#8, 0x9D#8, 0x86#8, 0x8E#8, 0x96#8, 0x84#8, 0x8C#8, 0x94#8,
   0x83#8, 0x87#8, 0x8F#8, 0x97#8]

/-- The documented read-modify-write opcodes in memory. -/
def modifyOpcodes : List Byte :=
  [0xE6#8, 0xEE#8, 0xF6#8, 0xFE#8, 0xC6#8, 0xCE#8, 0xD6#8, 0xDE#8,
   0x06#8, 0x0E#8, 0x16#8, 0x1E#8, 0x46#8, 0x4E#8, 0x56#8, 0x5E#8,
   0x26#8, 0x2E#8, 0x36#8, 0x3E#8, 0x66#8, 0x6E#8, 0x76#8, 0x7E#8]

/-- The undocumented ones: SLO, RLA, SRE, RRA, DCP, ISC. -/
def comboOpcodes : List Byte :=
  [0x03#8, 0x07#8, 0x0F#8, 0x13#8, 0x17#8, 0x1B#8, 0x1F#8, 0x23#8, 0x27#8, 0x2F#8, 0x33#8, 0x37#8, 0x3B#8, 0x3F#8,
   0x43#8, 0x47#8, 0x4F#8, 0x53#8, 0x57#8, 0x5B#8, 0x5F#8, 0x63#8, 0x67#8, 0x6F#8, 0x73#8, 0x77#8, 0x7B#8, 0x7F#8,
   0xC3#8, 0xC7#8, 0xCF#8, 0xD3#8, 0xD7#8, 0xDB#8, 0xDF#8, 0xE3#8, 0xE7#8, 0xEF#8, 0xF3#8, 0xF7#8, 0xFB#8, 0xFF#8]

/-- Whether an opcode stores to its effective address. -/
def storesToEa (op : Byte) : Bool := storeOpcodes.contains op || modifyOpcodes.contains op || comboOpcodes.contains op

/-- How many bytes an opcode pushes: BRK 3, JSR 2, PHP and PHA 1. -/
def pushCount (op : Byte) : Nat :=
  if op = 0x00#8 then 3 else if op = 0x20#8 then 2 else if op = 0x08#8 ∨ op = 0x48#8 then 1 else 0

/-- The operand an instruction's meaning is given: its operand bytes as a word. -/
def operandOf (i : Instr) : Word :=
  match encode i with
  | [_, b] => zeroPage b
  | [_, b, c] => wordOf b c
  | _ => 0#16

/-- The first `n` stack addresses a push reaches from `S = sp`, downward inside page 1 (10 R37). -/
def pushSlots (sp : Byte) (n : Nat) : List Word :=
  (List.range n).map fun k => stackAddr (sp - BitVec.ofNat 8 k)

/-- The addresses an instruction stores to from a state, computed as its meaning computes them: the effective address of
a store or a read-modify-write in memory, the stack slots of a push, JSR or BRK, and nothing otherwise. -/
def storedAddrs (i : Instr) (s : State) : List Word :=
  if storesToEa (opcodeOf i) then [(beginAndResolve (opcodeOf i) (operandOf i) s).ea]
  else pushSlots s.cpu.s (pushCount (opcodeOf i))

end Sys2Proof.Machine
end

