-- ==== Sys2Proof/Certificates/Slice0/Obligations.lean ====
section
/-! DEFINITION. What is stated of the model, for the provers: one `def Obligations.<Name> : Prop` per statement, and
before them the vocabulary they are stated in: the encodings of each mnemonic as the spec's instruction rules list them
(opcode, mode, base cycles, page-cross flag, written out here from spec/opcode_table.json and not read from the model's
own table), and the reference results. -/

namespace Sys2Proof.Machine

/-- One encoding of a mnemonic: the instruction, and the opcode, mode, base cycles and page-cross flag the spec's rule
gives it. `operand` holds the operand bytes. -/
structure Form where
  instr   : Instr
  op      : Byte
  mode    : Mode
  operand : Word
  cycles  : Byte
  pen     : Bool
  deriving DecidableEq, Repr

/-- The encodings of LDA (R260). -/
def ldaForms (b : Byte) (w : Word) : List Form :=
  [⟨.ldaIzx b, 0xA1#8, .izx, zeroPage b, 6#8, false⟩,
   ⟨.ldaZp0 b, 0xA5#8, .zp0, zeroPage b, 3#8, false⟩,
   ⟨.ldaImm b, 0xA9#8, .imm, zeroPage b, 2#8, false⟩,
   ⟨.ldaAbs w, 0xAD#8, .abs, w, 4#8, false⟩,
   ⟨.ldaIzy b, 0xB1#8, .izy, zeroPage b, 5#8, true⟩,
   ⟨.ldaZpx b, 0xB5#8, .zpx, zeroPage b, 4#8, false⟩,
   ⟨.ldaAby w, 0xB9#8, .aby, w, 4#8, true⟩,
   ⟨.ldaAbx w, 0xBD#8, .abx, w, 4#8, true⟩]

/-- The encodings of LDX (R261). -/
def ldxForms (b : Byte) (w : Word) : List Form :=
  [⟨.ldxImm b, 0xA2#8, .imm, zeroPage b, 2#8, false⟩,
   ⟨.ldxZp0 b, 0xA6#8, .zp0, zeroPage b, 3#8, false⟩,
   ⟨.ldxAbs w, 0xAE#8, .abs, w, 4#8, false⟩,
   ⟨.ldxZpy b, 0xB6#8, .zpy, zeroPage b, 4#8, false⟩,
   ⟨.ldxAby w, 0xBE#8, .aby, w, 4#8, true⟩]

/-- The encodings of LDY (R262). -/
def ldyForms (b : Byte) (w : Word) : List Form :=
  [⟨.ldyImm b, 0xA0#8, .imm, zeroPage b, 2#8, false⟩,
   ⟨.ldyZp0 b, 0xA4#8, .zp0, zeroPage b, 3#8, false⟩,
   ⟨.ldyAbs w, 0xAC#8, .abs, w, 4#8, false⟩,
   ⟨.ldyZpx b, 0xB4#8, .zpx, zeroPage b, 4#8, false⟩,
   ⟨.ldyAbx w, 0xBC#8, .abx, w, 4#8, true⟩]

/-- The encodings of STA (R263). -/
def staForms (b : Byte) (w : Word) : List Form :=
  [⟨.staIzx b, 0x81#8, .izx, zeroPage b, 6#8, false⟩,
   ⟨.staZp0 b, 0x85#8, .zp0, zeroPage b, 3#8, false⟩,
   ⟨.staAbs w, 0x8D#8, .abs, w, 4#8, false⟩,
   ⟨.staIzy b, 0x91#8, .izy, zeroPage b, 6#8, false⟩,
   ⟨.staZpx b, 0x95#8, .zpx, zeroPage b, 4#8, false⟩,
   ⟨.staAby w, 0x99#8, .aby, w, 5#8, false⟩,
   ⟨.staAbx w, 0x9D#8, .abx, w, 5#8, false⟩]

/-- The encodings of STX (R264). -/
def stxForms (b : Byte) (w : Word) : List Form :=
  [⟨.stxZp0 b, 0x86#8, .zp0, zeroPage b, 3#8, false⟩,
   ⟨.stxAbs w, 0x8E#8, .abs, w, 4#8, false⟩,
   ⟨.stxZpy b, 0x96#8, .zpy, zeroPage b, 4#8, false⟩]

/-- The encodings of STY (R265). -/
def styForms (b : Byte) (w : Word) : List Form :=
  [⟨.styZp0 b, 0x84#8, .zp0, zeroPage b, 3#8, false⟩,
   ⟨.styAbs w, 0x8C#8, .abs, w, 4#8, false⟩,
   ⟨.styZpx b, 0x94#8, .zpx, zeroPage b, 4#8, false⟩]

/-- The encodings of ADC (R280). -/
def adcForms (b : Byte) (w : Word) : List Form :=
  [⟨.adcIzx b, 0x61#8, .izx, zeroPage b, 6#8, false⟩,
   ⟨.adcZp0 b, 0x65#8, .zp0, zeroPage b, 3#8, false⟩,
   ⟨.adcImm b, 0x69#8, .imm, zeroPage b, 2#8, false⟩,
   ⟨.adcAbs w, 0x6D#8, .abs, w, 4#8, false⟩,
   ⟨.adcIzy b, 0x71#8, .izy, zeroPage b, 5#8, true⟩,
   ⟨.adcZpx b, 0x75#8, .zpx, zeroPage b, 4#8, false⟩,
   ⟨.adcAby w, 0x79#8, .aby, w, 4#8, true⟩,
   ⟨.adcAbx w, 0x7D#8, .abx, w, 4#8, true⟩]

/-- The encodings of SBC (R282, R365). -/
def sbcForms (b : Byte) (w : Word) : List Form :=
  [⟨.sbcIzx b, 0xE1#8, .izx, zeroPage b, 6#8, false⟩,
   ⟨.sbcZp0 b, 0xE5#8, .zp0, zeroPage b, 3#8, false⟩,
   ⟨.sbcImm b, 0xE9#8, .imm, zeroPage b, 2#8, false⟩,
   ⟨.sbcImmEB b, 0xEB#8, .imm, zeroPage b, 2#8, false⟩,
   ⟨.sbcAbs w, 0xED#8, .abs, w, 4#8, false⟩,
   ⟨.sbcIzy b, 0xF1#8, .izy, zeroPage b, 5#8, true⟩,
   ⟨.sbcZpx b, 0xF5#8, .zpx, zeroPage b, 4#8, false⟩,
   ⟨.sbcAby w, 0xF9#8, .aby, w, 4#8, true⟩,
   ⟨.sbcAbx w, 0xFD#8, .abx, w, 4#8, true⟩]

/-- The encodings of AND (R283). -/
def andForms (b : Byte) (w : Word) : List Form :=
  [⟨.andIzx b, 0x21#8, .izx, zeroPage b, 6#8, false⟩,
   ⟨.andZp0 b, 0x25#8, .zp0, zeroPage b, 3#8, false⟩,
   ⟨.andImm b, 0x29#8, .imm, zeroPage b, 2#8, false⟩,
   ⟨.andAbs w, 0x2D#8, .abs, w, 4#8, false⟩,
   ⟨.andIzy b, 0x31#8, .izy, zeroPage b, 5#8, true⟩,
   ⟨.andZpx b, 0x35#8, .zpx, zeroPage b, 4#8, false⟩,
   ⟨.andAby w, 0x39#8, .aby, w, 4#8, true⟩,
   ⟨.andAbx w, 0x3D#8, .abx, w, 4#8, true⟩]

/-- The encodings of ORA (R284). -/
def oraForms (b : Byte) (w : Word) : List Form :=
  [⟨.oraIzx b, 0x01#8, .izx, zeroPage b, 6#8, false⟩,
   ⟨.oraZp0 b, 0x05#8, .zp0, zeroPage b, 3#8, false⟩,
   ⟨.oraImm b, 0x09#8, .imm, zeroPage b, 2#8, false⟩,
   ⟨.oraAbs w, 0x0D#8, .abs, w, 4#8, false⟩,
   ⟨.oraIzy b, 0x11#8, .izy, zeroPage b, 5#8, true⟩,
   ⟨.oraZpx b, 0x15#8, .zpx, zeroPage b, 4#8, false⟩,
   ⟨.oraAby w, 0x19#8, .aby, w, 4#8, true⟩,
   ⟨.oraAbx w, 0x1D#8, .abx, w, 4#8, true⟩]

/-- The encodings of EOR (R285). -/
def eorForms (b : Byte) (w : Word) : List Form :=
  [⟨.eorIzx b, 0x41#8, .izx, zeroPage b, 6#8, false⟩,
   ⟨.eorZp0 b, 0x45#8, .zp0, zeroPage b, 3#8, false⟩,
   ⟨.eorImm b, 0x49#8, .imm, zeroPage b, 2#8, false⟩,
   ⟨.eorAbs w, 0x4D#8, .abs, w, 4#8, false⟩,
   ⟨.eorIzy b, 0x51#8, .izy, zeroPage b, 5#8, true⟩,
   ⟨.eorZpx b, 0x55#8, .zpx, zeroPage b, 4#8, false⟩,
   ⟨.eorAby w, 0x59#8, .aby, w, 4#8, true⟩,
   ⟨.eorAbx w, 0x5D#8, .abx, w, 4#8, true⟩]

/-- The encodings of CMP (R286). -/
def cmpForms (b : Byte) (w : Word) : List Form :=
  [⟨.cmpIzx b, 0xC1#8, .izx, zeroPage b, 6#8, false⟩,
   ⟨.cmpZp0 b, 0xC5#8, .zp0, zeroPage b, 3#8, false⟩,
   ⟨.cmpImm b, 0xC9#8, .imm, zeroPage b, 2#8, false⟩,
   ⟨.cmpAbs w, 0xCD#8, .abs, w, 4#8, false⟩,
   ⟨.cmpIzy b, 0xD1#8, .izy, zeroPage b, 5#8, true⟩,
   ⟨.cmpZpx b, 0xD5#8, .zpx, zeroPage b, 4#8, false⟩,
   ⟨.cmpAby w, 0xD9#8, .aby, w, 4#8, true⟩,
   ⟨.cmpAbx w, 0xDD#8, .abx, w, 4#8, true⟩]

/-- The encodings of CPX (R287). -/
def cpxForms (b : Byte) (w : Word) : List Form :=
  [⟨.cpxImm b, 0xE0#8, .imm, zeroPage b, 2#8, false⟩,
   ⟨.cpxZp0 b, 0xE4#8, .zp0, zeroPage b, 3#8, false⟩,
   ⟨.cpxAbs w, 0xEC#8, .abs, w, 4#8, false⟩]

/-- The encodings of CPY (R288). -/
def cpyForms (b : Byte) (w : Word) : List Form :=
  [⟨.cpyImm b, 0xC0#8, .imm, zeroPage b, 2#8, false⟩,
   ⟨.cpyZp0 b, 0xC4#8, .zp0, zeroPage b, 3#8, false⟩,
   ⟨.cpyAbs w, 0xCC#8, .abs, w, 4#8, false⟩]

/-- The encodings of BIT (R289). -/
def bitForms (b : Byte) (w : Word) : List Form :=
  [⟨.bitZp0 b, 0x24#8, .zp0, zeroPage b, 3#8, false⟩,
   ⟨.bitAbs w, 0x2C#8, .abs, w, 4#8, false⟩]

/-- The encodings of INC (R290). -/
def incForms (b : Byte) (w : Word) : List Form :=
  [⟨.incZp0 b, 0xE6#8, .zp0, zeroPage b, 5#8, false⟩,
   ⟨.incAbs w, 0xEE#8, .abs, w, 6#8, false⟩,
   ⟨.incZpx b, 0xF6#8, .zpx, zeroPage b, 6#8, false⟩,
   ⟨.incAbx w, 0xFE#8, .abx, w, 7#8, false⟩]

/-- The encodings of DEC (R291). -/
def decForms (b : Byte) (w : Word) : List Form :=
  [⟨.decZp0 b, 0xC6#8, .zp0, zeroPage b, 5#8, false⟩,
   ⟨.decAbs w, 0xCE#8, .abs, w, 6#8, false⟩,
   ⟨.decZpx b, 0xD6#8, .zpx, zeroPage b, 6#8, false⟩,
   ⟨.decAbx w, 0xDE#8, .abx, w, 7#8, false⟩]

/-- The encodings of ASL (R296). -/
def aslForms (b : Byte) (w : Word) : List Form :=
  [⟨.aslZp0 b, 0x06#8, .zp0, zeroPage b, 5#8, false⟩,
   ⟨.aslAcc, 0x0A#8, .acc, 0#16, 2#8, false⟩,
   ⟨.aslAbs w, 0x0E#8, .abs, w, 6#8, false⟩,
   ⟨.aslZpx b, 0x16#8, .zpx, zeroPage b, 6#8, false⟩,
   ⟨.aslAbx w, 0x1E#8, .abx, w, 7#8, false⟩]

/-- The encodings of LSR (R297). -/
def lsrForms (b : Byte) (w : Word) : List Form :=
  [⟨.lsrZp0 b, 0x46#8, .zp0, zeroPage b, 5#8, false⟩,
   ⟨.lsrAcc, 0x4A#8, .acc, 0#16, 2#8, false⟩,
   ⟨.lsrAbs w, 0x4E#8, .abs, w, 6#8, false⟩,
   ⟨.lsrZpx b, 0x56#8, .zpx, zeroPage b, 6#8, false⟩,
   ⟨.lsrAbx w, 0x5E#8, .abx, w, 7#8, false⟩]

/-- The encodings of ROL (R298). -/
def rolForms (b : Byte) (w : Word) : List Form :=
  [⟨.rolZp0 b, 0x26#8, .zp0, zeroPage b, 5#8, false⟩,
   ⟨.rolAcc, 0x2A#8, .acc, 0#16, 2#8, false⟩,
   ⟨.rolAbs w, 0x2E#8, .abs, w, 6#8, false⟩,
   ⟨.rolZpx b, 0x36#8, .zpx, zeroPage b, 6#8, false⟩,
   ⟨.rolAbx w, 0x3E#8, .abx, w, 7#8, false⟩]

/-- The encodings of ROR (R299). -/
def rorForms (b : Byte) (w : Word) : List Form :=
  [⟨.rorZp0 b, 0x66#8, .zp0, zeroPage b, 5#8, false⟩,
   ⟨.rorAcc, 0x6A#8, .acc, 0#16, 2#8, false⟩,
   ⟨.rorAbs w, 0x6E#8, .abs, w, 6#8, false⟩,
   ⟨.rorZpx b, 0x76#8, .zpx, zeroPage b, 6#8, false⟩,
   ⟨.rorAbx w, 0x7E#8, .abx, w, 7#8, false⟩]

/-- The encodings of JMP (R310). -/
def jmpForms (_ : Byte) (w : Word) : List Form :=
  [⟨.jmpAbs w, 0x4C#8, .abs, w, 3#8, false⟩,
   ⟨.jmpInd w, 0x6C#8, .ind, w, 5#8, false⟩]

/-- The encodings of SLO (R351). -/
def sloForms (b : Byte) (w : Word) : List Form :=
  [⟨.sloIzx b, 0x03#8, .izx, zeroPage b, 8#8, false⟩,
   ⟨.sloZp0 b, 0x07#8, .zp0, zeroPage b, 5#8, false⟩,
   ⟨.sloAbs w, 0x0F#8, .abs, w, 6#8, false⟩,
   ⟨.sloIzy b, 0x13#8, .izy, zeroPage b, 8#8, false⟩,
   ⟨.sloZpx b, 0x17#8, .zpx, zeroPage b, 6#8, false⟩,
   ⟨.sloAby w, 0x1B#8, .aby, w, 7#8, false⟩,
   ⟨.sloAbx w, 0x1F#8, .abx, w, 7#8, false⟩]

/-- The encodings of RLA (R352). -/
def rlaForms (b : Byte) (w : Word) : List Form :=
  [⟨.rlaIzx b, 0x23#8, .izx, zeroPage b, 8#8, false⟩,
   ⟨.rlaZp0 b, 0x27#8, .zp0, zeroPage b, 5#8, false⟩,
   ⟨.rlaAbs w, 0x2F#8, .abs, w, 6#8, false⟩,
   ⟨.rlaIzy b, 0x33#8, .izy, zeroPage b, 8#8, false⟩,
   ⟨.rlaZpx b, 0x37#8, .zpx, zeroPage b, 6#8, false⟩,
   ⟨.rlaAby w, 0x3B#8, .aby, w, 7#8, false⟩,
   ⟨.rlaAbx w, 0x3F#8, .abx, w, 7#8, false⟩]

/-- The encodings of SRE (R353). -/
def sreForms (b : Byte) (w : Word) : List Form :=
  [⟨.sreIzx b, 0x43#8, .izx, zeroPage b, 8#8, false⟩,
   ⟨.sreZp0 b, 0x47#8, .zp0, zeroPage b, 5#8, false⟩,
   ⟨.sreAbs w, 0x4F#8, .abs, w, 6#8, false⟩,
   ⟨.sreIzy b, 0x53#8, .izy, zeroPage b, 8#8, false⟩,
   ⟨.sreZpx b, 0x57#8, .zpx, zeroPage b, 6#8, false⟩,
   ⟨.sreAby w, 0x5B#8, .aby, w, 7#8, false⟩,
   ⟨.sreAbx w, 0x5F#8, .abx, w, 7#8, false⟩]

/-- The encodings of RRA (R354). -/
def rraForms (b : Byte) (w : Word) : List Form :=
  [⟨.rraIzx b, 0x63#8, .izx, zeroPage b, 8#8, false⟩,
   ⟨.rraZp0 b, 0x67#8, .zp0, zeroPage b, 5#8, false⟩,
   ⟨.rraAbs w, 0x6F#8, .abs, w, 6#8, false⟩,
   ⟨.rraIzy b, 0x73#8, .izy, zeroPage b, 8#8, false⟩,
   ⟨.rraZpx b, 0x77#8, .zpx, zeroPage b, 6#8, false⟩,
   ⟨.rraAby w, 0x7B#8, .aby, w, 7#8, false⟩,
   ⟨.rraAbx w, 0x7F#8, .abx, w, 7#8, false⟩]

/-- The encodings of DCP (R355). -/
def dcpForms (b : Byte) (w : Word) : List Form :=
  [⟨.dcpIzx b, 0xC3#8, .izx, zeroPage b, 8#8, false⟩,
   ⟨.dcpZp0 b, 0xC7#8, .zp0, zeroPage b, 5#8, false⟩,
   ⟨.dcpAbs w, 0xCF#8, .abs, w, 6#8, false⟩,
   ⟨.dcpIzy b, 0xD3#8, .izy, zeroPage b, 8#8, false⟩,
   ⟨.dcpZpx b, 0xD7#8, .zpx, zeroPage b, 6#8, false⟩,
   ⟨.dcpAby w, 0xDB#8, .aby, w, 7#8, false⟩,
   ⟨.dcpAbx w, 0xDF#8, .abx, w, 7#8, false⟩]

/-- The encodings of ISC (R356). -/
def iscForms (b : Byte) (w : Word) : List Form :=
  [⟨.iscIzx b, 0xE3#8, .izx, zeroPage b, 8#8, false⟩,
   ⟨.iscZp0 b, 0xE7#8, .zp0, zeroPage b, 5#8, false⟩,
   ⟨.iscAbs w, 0xEF#8, .abs, w, 6#8, false⟩,
   ⟨.iscIzy b, 0xF3#8, .izy, zeroPage b, 8#8, false⟩,
   ⟨.iscZpx b, 0xF7#8, .zpx, zeroPage b, 6#8, false⟩,
   ⟨.iscAby w, 0xFB#8, .aby, w, 7#8, false⟩,
   ⟨.iscAbx w, 0xFF#8, .abx, w, 7#8, false⟩]

/-- The encodings of LAX (R357). -/
def laxForms (b : Byte) (w : Word) : List Form :=
  [⟨.laxIzx b, 0xA3#8, .izx, zeroPage b, 6#8, false⟩,
   ⟨.laxZp0 b, 0xA7#8, .zp0, zeroPage b, 3#8, false⟩,
   ⟨.laxImm b, 0xAB#8, .imm, zeroPage b, 2#8, false⟩,
   ⟨.laxAbs w, 0xAF#8, .abs, w, 4#8, false⟩,
   ⟨.laxIzy b, 0xB3#8, .izy, zeroPage b, 5#8, true⟩,
   ⟨.laxZpy b, 0xB7#8, .zpy, zeroPage b, 4#8, false⟩,
   ⟨.laxAby w, 0xBF#8, .aby, w, 4#8, true⟩]

/-- The encodings of LAS (R363). -/
def lasForms (_ : Byte) (w : Word) : List Form :=
  [⟨.lasAby w, 0xBB#8, .aby, w, 4#8, true⟩]

/-- The encodings of SAX (R358). -/
def saxForms (b : Byte) (w : Word) : List Form :=
  [⟨.saxIzx b, 0x83#8, .izx, zeroPage b, 6#8, false⟩,
   ⟨.saxZp0 b, 0x87#8, .zp0, zeroPage b, 3#8, false⟩,
   ⟨.saxAbs w, 0x8F#8, .abs, w, 4#8, false⟩,
   ⟨.saxZpy b, 0x97#8, .zpy, zeroPage b, 4#8, false⟩]

/-- The encodings of ANC (R359). -/
def ancForms (b : Byte) (_ : Word) : List Form :=
  [⟨.ancImm0B b, 0x0B#8, .imm, zeroPage b, 2#8, false⟩,
   ⟨.ancImm2B b, 0x2B#8, .imm, zeroPage b, 2#8, false⟩]

/-- The encodings of ALR (R360). -/
def alrForms (b : Byte) (_ : Word) : List Form :=
  [⟨.alrImm b, 0x4B#8, .imm, zeroPage b, 2#8, false⟩]

/-- The encodings of ARR (R361). -/
def arrForms (b : Byte) (_ : Word) : List Form :=
  [⟨.arrImm b, 0x6B#8, .imm, zeroPage b, 2#8, false⟩]

/-- The encodings of AXS (R362). -/
def axsForms (b : Byte) (_ : Word) : List Form :=
  [⟨.axsImm b, 0xCB#8, .imm, zeroPage b, 2#8, false⟩]

/-- The encodings of NOP (R336, R364). -/
def nopForms (b : Byte) (w : Word) : List Form :=
  [⟨.nopZp004 b, 0x04#8, .zp0, zeroPage b, 3#8, false⟩,
   ⟨.nopAbs0C w, 0x0C#8, .abs, w, 4#8, false⟩,
   ⟨.nopZpx14 b, 0x14#8, .zpx, zeroPage b, 4#8, false⟩,
   ⟨.nopImp1A, 0x1A#8, .imp, 0#16, 2#8, false⟩,
   ⟨.nopAbx1C w, 0x1C#8, .abx, w, 4#8, true⟩,
   ⟨.nopZpx34 b, 0x34#8, .zpx, zeroPage b, 4#8, false⟩,
   ⟨.nopImp3A, 0x3A#8, .imp, 0#16, 2#8, false⟩,
   ⟨.nopAbx3C w, 0x3C#8, .abx, w, 4#8, true⟩,
   ⟨.nopZp044 b, 0x44#8, .zp0, zeroPage b, 3#8, false⟩,
   ⟨.nopZpx54 b, 0x54#8, .zpx, zeroPage b, 4#8, false⟩,
   ⟨.nopImp5A, 0x5A#8, .imp, 0#16, 2#8, false⟩,
   ⟨.nopAbx5C w, 0x5C#8, .abx, w, 4#8, true⟩,
   ⟨.nopZp064 b, 0x64#8, .zp0, zeroPage b, 3#8, false⟩,
   ⟨.nopZpx74 b, 0x74#8, .zpx, zeroPage b, 4#8, false⟩,
   ⟨.nopImp7A, 0x7A#8, .imp, 0#16, 2#8, false⟩,
   ⟨.nopAbx7C w, 0x7C#8, .abx, w, 4#8, true⟩,
   ⟨.nopImm80 b, 0x80#8, .imm, zeroPage b, 2#8, false⟩,
   ⟨.nopImm82 b, 0x82#8, .imm, zeroPage b, 2#8, false⟩,
   ⟨.nopImm89 b, 0x89#8, .imm, zeroPage b, 2#8, false⟩,
   ⟨.nopImmC2 b, 0xC2#8, .imm, zeroPage b, 2#8, false⟩,
   ⟨.nopZpxD4 b, 0xD4#8, .zpx, zeroPage b, 4#8, false⟩,
   ⟨.nopImpDA, 0xDA#8, .imp, 0#16, 2#8, false⟩,
   ⟨.nopAbxDC w, 0xDC#8, .abx, w, 4#8, true⟩,
   ⟨.nopImmE2 b, 0xE2#8, .imm, zeroPage b, 2#8, false⟩,
   ⟨.nop, 0xEA#8, .imp, 0#16, 2#8, false⟩,
   ⟨.nopZpxF4 b, 0xF4#8, .zpx, zeroPage b, 4#8, false⟩,
   ⟨.nopImpFA, 0xFA#8, .imp, 0#16, 2#8, false⟩,
   ⟨.nopAbxFC w, 0xFC#8, .abx, w, 4#8, true⟩]

/-- The encodings of KIL (R370). -/
def kilForms (_ : Byte) (_ : Word) : List Form :=
  [⟨.kil02, 0x02#8, .imp, 0#16, 2#8, false⟩,
   ⟨.kil12, 0x12#8, .imp, 0#16, 2#8, false⟩,
   ⟨.kil22, 0x22#8, .imp, 0#16, 2#8, false⟩,
   ⟨.kil32, 0x32#8, .imp, 0#16, 2#8, false⟩,
   ⟨.kil42, 0x42#8, .imp, 0#16, 2#8, false⟩,
   ⟨.kil52, 0x52#8, .imp, 0#16, 2#8, false⟩,
   ⟨.kil62, 0x62#8, .imp, 0#16, 2#8, false⟩,
   ⟨.kil72, 0x72#8, .imp, 0#16, 2#8, false⟩,
   ⟨.kil92, 0x92#8, .imp, 0#16, 2#8, false⟩,
   ⟨.kilB2, 0xB2#8, .imp, 0#16, 2#8, false⟩,
   ⟨.kilD2, 0xD2#8, .imp, 0#16, 2#8, false⟩,
   ⟨.kilF2, 0xF2#8, .imp, 0#16, 2#8, false⟩]

/-- The encodings of AHX (R372). -/
def ahxForms (b : Byte) (w : Word) : List Form :=
  [⟨.ahxIzy b, 0x93#8, .izy, zeroPage b, 6#8, false⟩,
   ⟨.ahxAby w, 0x9F#8, .aby, w, 5#8, false⟩]

/-- The encodings of TAS (R373). -/
def tasForms (_ : Byte) (w : Word) : List Form :=
  [⟨.tasAby w, 0x9B#8, .aby, w, 5#8, false⟩]

/-- The encodings of SHY (R374). -/
def shyForms (_ : Byte) (w : Word) : List Form :=
  [⟨.shyAbx w, 0x9C#8, .abx, w, 5#8, false⟩]

/-- The encodings of SHX (R375). -/
def shxForms (_ : Byte) (w : Word) : List Form :=
  [⟨.shxAby w, 0x9E#8, .aby, w, 5#8, false⟩]

/-- The encodings of XAA (R376). -/
def xaaForms (b : Byte) (_ : Word) : List Form :=
  [⟨.xaaImm b, 0x8B#8, .imm, zeroPage b, 2#8, false⟩]

/-- The conditional branches and their conditions on P (43 R317-R324). -/
def branchForms (b : Byte) : List (Instr × Byte × (Byte → Bool)) :=
  [(.bpl b, 0x10#8, fun p => p.getLsbD 7 == false), (.bmi b, 0x30#8, fun p => p.getLsbD 7 == true),
   (.bvc b, 0x50#8, fun p => p.getLsbD 6 == false), (.bvs b, 0x70#8, fun p => p.getLsbD 6 == true),
   (.bcc b, 0x90#8, fun p => p.getLsbD 0 == false), (.bcs b, 0xB0#8, fun p => p.getLsbD 0 == true),
   (.bne b, 0xD0#8, fun p => p.getLsbD 1 == false), (.beq b, 0xF0#8, fun p => p.getLsbD 1 == true)]

/-- The opcodes whose instruction writes A by its rule (10 R35): loads, transfers, arithmetic, logic, accumulator shifts,
PLA and the undocumented combinations. -/
def opcodesWritingA : List Byte :=
  [0x01#8, 0x03#8, 0x05#8, 0x07#8, 0x09#8, 0x0A#8, 0x0B#8, 0x0D#8, 0x0F#8, 0x11#8, 0x13#8, 0x15#8, 0x17#8, 0x19#8,
   0x1B#8, 0x1D#8, 0x1F#8, 0x21#8, 0x23#8, 0x25#8, 0x27#8, 0x29#8, 0x2A#8, 0x2B#8, 0x2D#8, 0x2F#8, 0x31#8, 0x33#8,
   0x35#8, 0x37#8, 0x39#8, 0x3B#8, 0x3D#8, 0x3F#8, 0x41#8, 0x43#8, 0x45#8, 0x47#8, 0x49#8, 0x4A#8, 0x4B#8, 0x4D#8,
   0x4F#8, 0x51#8, 0x53#8, 0x55#8, 0x57#8, 0x59#8, 0x5B#8, 0x5D#8, 0x5F#8, 0x61#8, 0x63#8, 0x65#8, 0x67#8, 0x68#8,
   0x69#8, 0x6A#8, 0x6B#8, 0x6D#8, 0x6F#8, 0x71#8, 0x73#8, 0x75#8, 0x77#8, 0x79#8, 0x7B#8, 0x7D#8, 0x7F#8, 0x8A#8,
   0x98#8, 0xA1#8, 0xA3#8, 0xA5#8, 0xA7#8, 0xA9#8, 0xAB#8, 0xAD#8, 0xAF#8, 0xB1#8, 0xB3#8, 0xB5#8, 0xB7#8, 0xB9#8,
   0xBB#8, 0xBD#8, 0xBF#8, 0xE1#8, 0xE3#8, 0xE5#8, 0xE7#8, 0xE9#8, 0xEB#8, 0xED#8, 0xEF#8, 0xF1#8, 0xF3#8, 0xF5#8,
   0xF7#8, 0xF9#8, 0xFB#8, 0xFD#8, 0xFF#8]

/-- The opcodes whose instruction writes X by its rule. -/
def opcodesWritingX : List Byte :=
  [0xA2#8, 0xA3#8, 0xA6#8, 0xA7#8, 0xAA#8, 0xAB#8, 0xAE#8, 0xAF#8, 0xB3#8, 0xB6#8, 0xB7#8, 0xBA#8, 0xBB#8, 0xBE#8,
   0xBF#8, 0xCA#8, 0xCB#8, 0xE8#8]

/-- The opcodes whose instruction writes Y by its rule. -/
def opcodesWritingY : List Byte :=
  [0x88#8, 0xA0#8, 0xA4#8, 0xA8#8, 0xAC#8, 0xB4#8, 0xBC#8, 0xC8#8]

/-- The opcodes whose instruction writes S by its rule (10 R37). -/
def opcodesWritingS : List Byte :=
  [0x00#8, 0x08#8, 0x20#8, 0x28#8, 0x40#8, 0x48#8, 0x60#8, 0x68#8, 0x9A#8, 0xBB#8]

/-- The kill opcodes (30 R199). -/
def killOpcodes : List Byte :=
  [0x02#8, 0x12#8, 0x22#8, 0x32#8, 0x42#8, 0x52#8, 0x62#8, 0x72#8, 0x8B#8, 0x92#8, 0x93#8, 0x9B#8, 0x9C#8, 0x9E#8,
   0x9F#8, 0xB2#8, 0xD2#8, 0xF2#8]

/-- The flags an opcode's rule names, as a mask on P, one row per high nibble (10 R40; PLP and RTI write all of P). -/
def flagMasks : List (List Byte) :=
  [[0x04#8, 0x82#8, 0x00#8, 0x83#8, 0x00#8, 0x82#8, 0x83#8, 0x83#8, 0x00#8, 0x82#8, 0x83#8, 0x83#8, 0x00#8, 0x82#8, 0x83#8, 0x83#8],
   [0x00#8, 0x82#8, 0x00#8, 0x83#8, 0x00#8, 0x82#8, 0x83#8, 0x83#8, 0x01#8, 0x82#8, 0x00#8, 0x83#8, 0x00#8, 0x82#8, 0x83#8, 0x83#8],
   [0x00#8, 0x82#8, 0x00#8, 0x83#8, 0xC2#8, 0x82#8, 0x83#8, 0x83#8, 0xFF#8, 0x82#8, 0x83#8, 0x83#8, 0xC2#8, 0x82#8, 0x83#8, 0x83#8],
   [0x00#8, 0x82#8, 0x00#8, 0x83#8, 0x00#8, 0x82#8, 0x83#8, 0x83#8, 0x01#8, 0x82#8, 0x00#8, 0x83#8, 0x00#8, 0x82#8, 0x83#8, 0x83#8],
   [0xFF#8, 0x82#8, 0x00#8, 0x83#8, 0x00#8, 0x82#8, 0x83#8, 0x83#8, 0x00#8, 0x82#8, 0x83#8, 0x83#8, 0x00#8, 0x82#8, 0x83#8, 0x83#8],
   [0x00#8, 0x82#8, 0x00#8, 0x83#8, 0x00#8, 0x82#8, 0x83#8, 0x83#8, 0x04#8, 0x82#8, 0x00#8, 0x83#8, 0x00#8, 0x82#8, 0x83#8, 0x83#8],
   [0x00#8, 0xC3#8, 0x00#8, 0xC3#8, 0x00#8, 0xC3#8, 0x83#8, 0xC3#8, 0x82#8, 0xC3#8, 0x83#8, 0xC3#8, 0x00#8, 0xC3#8, 0x83#8, 0xC3#8],
   [0x00#8, 0xC3#8, 0x00#8, 0xC3#8, 0x00#8, 0xC3#8, 0x83#8, 0xC3#8, 0x04#8, 0xC3#8, 0x00#8, 0xC3#8, 0x00#8, 0xC3#8, 0x83#8, 0xC3#8],
   [0x00#8, 0x00#8, 0x00#8, 0x00#8, 0x00#8, 0x00#8, 0x00#8, 0x00#8, 0x82#8, 0x00#8, 0x82#8, 0x00#8, 0x00#8, 0x00#8, 0x00#8, 0x00#8],
   [0x00#8, 0x00#8, 0x00#8, 0x00#8, 0x00#8, 0x00#8, 0x00#8, 0x00#8, 0x82#8, 0x00#8, 0x00#8, 0x00#8, 0x00#8, 0x00#8, 0x00#8, 0x00#8],
   [0x82#8, 0x82#8, 0x82#8, 0x82#8, 0x82#8, 0x82#8, 0x82#8, 0x82#8, 0x82#8, 0x82#8, 0x82#8, 0x82#8, 0x82#8, 0x82#8, 0x82#8, 0x82#8],
   [0x00#8, 0x82#8, 0x00#8, 0x82#8, 0x82#8, 0x82#8, 0x82#8, 0x82#8, 0x40#8, 0x82#8, 0x82#8, 0x82#8, 0x82#8, 0x82#8, 0x82#8, 0x82#8],
   [0x83#8, 0x83#8, 0x00#8, 0x83#8, 0x83#8, 0x83#8, 0x82#8, 0x83#8, 0x82#8, 0x83#8, 0x82#8, 0x83#8, 0x83#8, 0x83#8, 0x82#8, 0x83#8],
   [0x00#8, 0x83#8, 0x00#8, 0x83#8, 0x00#8, 0x83#8, 0x82#8, 0x83#8, 0x08#8, 0x83#8, 0x00#8, 0x83#8, 0x00#8, 0x83#8, 0x82#8, 0x83#8],
   [0x83#8, 0xC3#8, 0x00#8, 0xC3#8, 0x83#8, 0xC3#8, 0x82#8, 0xC3#8, 0x82#8, 0xC3#8, 0x00#8, 0xC3#8, 0x83#8, 0xC3#8, 0x82#8, 0xC3#8],
   [0x00#8, 0xC3#8, 0x00#8, 0xC3#8, 0x00#8, 0xC3#8, 0x82#8, 0xC3#8, 0x08#8, 0xC3#8, 0x00#8, 0xC3#8, 0x00#8, 0xC3#8, 0x82#8, 0xC3#8]]

/-- The flags an instruction writes. -/
def flagMask (op : Byte) : Byte := (flagMasks.getD (op.toNat / 16) []).getD (op.toNat % 16) 0#8

/-- The state with the instruction fetched: Opcode and Mode recorded, PC past its bytes, InstrCount + 1 (40 R226). -/
def Form.begun (f : Form) (s : State) : State :=
  s.setCpu { s.cpu with
    opcode := f.op
    mode := f.mode
    pc := s.cpu.pc + BitVec.ofNat 16 (modeLength f.mode)
    instrCount := s.cpu.instrCount + 1#64 }

/-- The addressing mode run on it: effective address, page-cross bit, state after the pointer reads. -/
def Form.target (f : Form) (s : State) : Ea := resolve f.mode f.operand (f.begun s)

/-- The cycles it takes: base, and one more if the form has the flag and the index crosses a page (40 R228, R229). -/
def Form.cost (f : Form) (s : State) : Byte :=
  f.cycles + (if f.pen = true ∧ (f.target s).cross = true then 1#8 else 0#8)

/-- The operand `M` and the state after its read (40 R245). -/
def Form.operandRead (f : Form) (s : State) : Byte × State :=
  readOperand f.mode f.operand (f.target s).ea (f.target s).st

/-- A state `t` of the instruction with the registers `c`, its EffAddr and CyclesLeft recorded. -/
def Form.closed (f : Form) (s t : State) (c : Cpu) : State :=
  t.setCpu { c with effAddr := (f.target s).ea, cyclesLeft := f.cost s }

/-- The result of an instruction that reads its operand and then changes registers by `g`. -/
def Form.afterRead (f : Form) (g : Byte → Cpu → Cpu) (s : State) : State :=
  f.closed s (f.operandRead s).2 (g (f.operandRead s).1 (f.operandRead s).2.cpu)

/-- The result of an instruction that stores the byte `src` gives to its effective address. -/
def Form.afterStore (f : Form) (src : Cpu → Byte) (s : State) : State :=
  f.closed s (memWrite (f.target s).st (f.target s).ea (src s.cpu)) (f.begun s).cpu

/-- The result of a read-modify-write: one read, the result `r` of P and the operand written back once (to A in ACC
mode), then the registers changed by `g`, which is given the operand and the result. -/
def Form.afterModify (f : Form) (r : Byte → Byte → Byte) (g : Byte → Byte → Cpu → Cpu) (s : State) : State :=
  let m := f.operandRead s
  let v := r s.cpu.p m.1
  let t := writeBack f.mode (f.target s).ea v m.2
  f.closed s t (g m.1 v t.cpu)

/-- The result of an instruction of registers alone, by `g`. -/
def Form.afterRegisters (f : Form) (g : Cpu → Cpu) (s : State) : State := f.closed s (f.begun s) (g (f.begun s).cpu)

/-- The exact sum `A + m + C` (42 R280). -/
def exactSum (a m : Byte) (c : Bool) : Nat := a.toNat + m.toNat + c.toNat

/-- `adc(m)` in exact arithmetic (42 R280): the sum, its bit 8 as carry, the source's overflow formula, Z and N. -/
def addTo (m : Byte) (c : Cpu) : Cpu :=
  let sum := exactSum c.a m (c.p.getLsbD 0)
  let r : Byte := BitVec.ofNat 8 sum
  let v := (~~~(c.a ^^^ m) &&& (c.a ^^^ r)).getLsbD 7
  { c with a := r, p := setNZ (withFlag (withFlag c.p 0 (decide (256 ≤ sum))) 6 v) r }

/-- `cmp(r, m)` (42 R286). -/
def compareWith (r m : Byte) (c : Cpu) : Cpu :=
  { c with p :=
    withFlag (withFlag (withFlag c.p 0 (decide (m.toNat ≤ r.toNat))) 1 (decide (r = m))) 7 ((r - m).getLsbD 7) }

/-- The result of a shift or rotate in exact arithmetic: ASL and ROL double, LSR and ROR halve, the rotates bring the
carry in (42 R296-R299). -/
def aslOf (_ m : Byte) : Byte := BitVec.ofNat 8 (2 * m.toNat)
def lsrOf (_ m : Byte) : Byte := BitVec.ofNat 8 (m.toNat / 2)
def rolOf (p m : Byte) : Byte := BitVec.ofNat 8 (2 * m.toNat + (p.getLsbD 0).toNat)
def rorOf (p m : Byte) : Byte := BitVec.ofNat 8 (m.toNat / 2 + 128 * (p.getLsbD 0).toNat)

/-- P with C set to `b` and Z, N from `r`. -/
def withCarryNZ (b : Bool) (r : Byte) (c : Cpu) : Cpu := { c with p := setNZ (withFlag c.p 0 b) r }

/-- The state after the three pushes of a trap: the saved PC high, its low byte, a status byte; S - 3 (60 R390). -/
def withTrapFrame (s : State) (pc : Word) (status : Byte) : State :=
  (s.setBus { s.bus with
    ram := Memory.write (Memory.write (Memory.write s.bus.ram (stackIndex s.cpu.s) (hiByte pc))
      (stackIndex (s.cpu.s - 1#8)) (loByte pc)) (stackIndex (s.cpu.s - 2#8)) status }).setCpu
    { s.cpu with s := s.cpu.s - 3#8 }

/-- The 16-bit value the CPU would read at `a`. -/
def peek16 (s : State) (a : Word) : Word := wordOf (peek s a) (peek s (a + 1#16))

/-- The state a dispatch of this step runs in: the inputs sampled and both interrupt detections made. -/
def State.atDispatch (s : State) : State := detectInterrupts (sampleInputs s)

/-- What a step does after the CPU's tick: T4 and T5 of the tick, the DMA step, three dots, the cycle count. -/
def afterDispatch (t : State) : Result :=
  finish (countCycle (ppuDots (dmaStep (t.setCpu (countdown (lookahead t.cpu))))))

/-- The bytes of a CPU address and the `n - 1` after it. -/
def bytesAt (s : State) (a : Word) (n : Nat) : List Byte := (List.range n).map fun k => peek s (a + BitVec.ofNat 16 k)

/-- The page a logical nametable lies on, spelled out (20 R113). -/
def pageOf (m : MirrorMode) (n : Nat) : Nat :=
  match m with
  | .horizontal => if n = 2 ∨ n = 3 then 1 else 0
  | .vertical => if n = 1 ∨ n = 3 then 1 else 0
  | .single p => p
  | .four => 0

/-- The VRAM byte a nametable address names (20 R111). -/
def nametableCell (m : MirrorMode) (a : PpuAddr) : Nat × Nat := (pageOf m ((a.toNat - 0x2000) / 0x400 % 4), a.toNat % 0x400)

/-- The palette entry an address in `0x3F00-0x3FFF` names (20 R115). -/
def paletteCell (a : PpuAddr) : Nat :=
  if a.toNat % 32 ∈ [0x10, 0x14, 0x18, 0x1C] then a.toNat % 32 - 16 else a.toNat % 32

/-- Run steps until `n` are done, or one does not answer a next state. -/
def runSteps (n : Nat) (s : State) : Result :=
  match n with
  | 0 => .next s
  | k + 1 => andThen (step s) (runSteps k)

/-- The position after a dot (61 R422, R423); `r` is rendering enabled. -/
def nextPosition (r : Bool) (p : Ppu) : Nat × Nat × Bool :=
  if p.hCount = 340 ∨ (p.hCount = 339 ∧ p.vCount = 261 ∧ r = true ∧ p.isEvenFrame = false) then
    if p.vCount = 261 then (0, 0, !p.isEvenFrame) else (0, p.vCount + 1, p.isEvenFrame)
  else (p.hCount + 1, p.vCount, p.isEvenFrame)

/-- Rendering enabled: show background or show sprites, on the visible half of Mask (61 R424). -/
def showsAny (p : Ppu) : Bool := p.mask.current.getLsbD 3 || p.mask.current.getLsbD 4

/-- A background shift register after a dot, as a number: doubled modulo 2^16 at the dots that shift, then its low byte
replaced by `low` at the dots that reload (61 R445, R446). -/
def bgRegisterAfter (h : Nat) (r : BitVec 16) (low : Byte) : Nat :=
  let shifted := if (2 ≤ h ∧ h ≤ 257) ∨ (322 ≤ h ∧ h ≤ 337) then 2 * r.toNat % 65536 else r.toNat
  if (9 ≤ h ∧ h ≤ 257 ∧ h % 8 = 1) ∨ h = 329 ∨ h = 337 then shifted / 256 * 256 + low.toNat else shifted

/-- Dot `h` is in a fetch window, at phase `ph` of its eight dots (61 R447). -/
abbrev fetchPhase (h ph : Nat) : Prop := ((1 ≤ h ∧ h ≤ 256) ∨ (321 ≤ h ∧ h ≤ 336)) ∧ (h - 1) % 8 = ph

/-- The sprite evaluation's own state (10 R55). -/
structure Evaluation where
  state  : EvalState
  n      : Nat
  m      : Nat
  found  : Nat
  latch  : Byte
  spr0   : Bool
  secOam : List Byte
  deriving DecidableEq, Repr

/-- The evaluation's fields of a PPU (10 R55). -/
def Ppu.evaluation (p : Ppu) : Evaluation :=
  ⟨p.evalState, p.evalN, p.evalM, p.evalFound, p.evalLatch, p.spr0Next, p.secOam⟩

/-- The sprite height of a state (61 R455). -/
def spriteLinesOf (s : State) : Nat :=
  if s.params.spriteSize = .ctrl ∧ s.ppu.ctrl.current.getLsbD 5 = true then 16 else 8

/-- The state that compositing sees in dot `j` of a system cycle: after steps S1, S2 and S3 of the dot (61 R421). -/
def State.atCompositing (j : Nat) (s : State) : State :=
  dotS3 (renderingEnabled s.ppu) (dotS2 (renderingEnabled s.ppu) (dotS1 (s.setPpu { s.ppu with ppuPhase := j })))

end Sys2Proof.Machine

open Sys2Proof Sys2Proof.Machine

/-- Words written out by hand from the opcode map (30 R196, which the spec marks as from general knowledge) and the operand
fields (30 R193, R195), at least one for each family. -/
def Obligations.DecodeKnownWords : Prop :=
  decode [0xA9#8, 0x80#8] = .ok (.ldaImm 0x80#8, []) ∧
  decode [0x8D#8, 0x00#8, 0x02#8] = .ok (.staAbs 0x0200#16, []) ∧
  decode [0xAA#8] = .ok (.tax, []) ∧
  decode [0x71#8, 0x20#8] = .ok (.adcIzy 0x20#8, []) ∧
  decode [0x2C#8, 0x02#8, 0x20#8] = .ok (.bitAbs 0x2002#16, []) ∧
  decode [0xFE#8, 0x34#8, 0x12#8] = .ok (.incAbx 0x1234#16, []) ∧
  decode [0x0A#8] = .ok (.aslAcc, []) ∧
  decode [0x6C#8, 0xFF#8, 0x12#8] = .ok (.jmpInd 0x12FF#16, []) ∧
  decode [0x10#8, 0x02#8] = .ok (.bpl 0x02#8, []) ∧
  decode [0x00#8] = .ok (.brk, []) ∧
  decode [0x48#8] = .ok (.pha, []) ∧
  decode [0x78#8] = .ok (.sei, []) ∧
  decode [0x03#8, 0x10#8] = .ok (.sloIzx 0x10#8, []) ∧
  decode [0x97#8, 0x10#8] = .ok (.saxZpy 0x10#8, []) ∧
  decode [0xCB#8, 0x05#8] = .ok (.axsImm 0x05#8, []) ∧
  decode [0x80#8, 0x7F#8] = .ok (.nopImm80 0x7F#8, []) ∧
  decode [0x02#8] = .ok (.kil02, []) ∧
  decode [0x8B#8, 0x01#8] = .ok (.xaaImm 0x01#8, [])

/-- Every instruction, at every value of its operand, is read back from its bytes (30 R190-R196). -/
def Obligations.DecodeEncodeRoundTrip : Prop :=
  ∀ (i : Instr) (rest : List Byte), i.wellFormed = true ∧ decode (encode i ++ rest) = .ok (i, rest)

/-- The other direction of the round trip: each byte string has one reading (30 R192, R200, R201). -/
def Obligations.EncodeDecodeRoundTrip : Prop :=
  (∀ (op b c : Byte) (rest : List Byte), ∃ i rest', decode (op :: b :: c :: rest) = .ok (i, rest')) ∧
  (∀ (bytes rest : List Byte) (i : Instr), decode bytes = .ok (i, rest) → encode i ++ rest = bytes) ∧
  (∀ bytes : List Byte, (∃ e, decode bytes = .error e) ↔ bytes.length < (bytes.head?.map opLength).getD 1)

/-- What a step adds around `exec` (40 R222, R226, R227, 70 R520): the samples and detections before it (`State.atDispatch`), and
`afterDispatch` after it. The first clause runs a due interrupt; the second covers every PC, also one where a fetch has side
effects; the third says what is fetched from plain storage. -/
def Obligations.StepRunsDecodedInstruction : Prop :=
  ∀ s : State, s.refusal = none → s.cpu.phase = .rise → s.cpu.isKilled = false → s.cpu.cyclesLeft = 0#8 →
    s.bus.dmaState ≠ .running →
  step s = andThen (dispatch s.atDispatch) afterDispatch ∧
  (s.cpu.nmiDue = false → s.cpu.irqDue = false →
    step s = andThen (exec (fetch s.atDispatch).instr (fetch s.atDispatch).st) afterDispatch ∧
    ∀ (n : Nat) (i : Instr), (∀ k < n, storable (s.cpu.pc + BitVec.ofNat 16 k) = true) →
      decode (bytesAt s s.cpu.pc n) = .ok (i, []) → i.wellFormed = true →
      step s = andThen (exec i s.atDispatch) afterDispatch)

/-- Whole instructions run at their dispatch tick (40 R226); the ticks between count down (40 R231, R233). The frozen killed
CPU is 60 R393, which the spec marks as its decision D14. -/
def Obligations.CpuIdleCycles : Prop :=
  ∀ s t : State, s.cpu.phase = .rise → step s = .next t →
  (s.cpu.isKilled = false → s.cpu.cyclesLeft ≠ 0#8 → s.bus.dmaState ≠ .running →
    t.cpu = { (countdown (lookahead (detectIrq (detectNmi s.cpu s.bus.nmiLine)
      (irqLevel s.params s.bus.busCycle)))) with phase := .rise } ∧
    t.cpu.cyclesLeft = s.cpu.cyclesLeft - 1#8 ∧ t.cpu.totalCycles = s.cpu.totalCycles + 1#64 ∧
    t.cpu.a = s.cpu.a ∧ t.cpu.x = s.cpu.x ∧ t.cpu.y = s.cpu.y ∧ t.cpu.s = s.cpu.s ∧ t.cpu.p = s.cpu.p ∧
    t.cpu.pc = s.cpu.pc ∧ t.bus.ram = s.bus.ram ∧ t.cart = s.cart) ∧
  (s.cpu.isKilled = true → t.cpu = s.cpu ∧ t.bus.ram = s.bus.ram ∧ t.cart = s.cart ∧
    t.bus.busCycle = s.bus.busCycle + 1#64)

/-- The property the source asks of ADC's flags (42 R280, "reference two's-complement overflow formula"), and what the flag
writers do, bit by bit (00 R13). -/
def Obligations.FlagBitsAndSignedOverflow : Prop :=
  (∀ (p : Byte) (i j : Nat) (b : Bool), i < 8 → j < 8 →
    getFlag (withFlag p i b) j = if i = j then b else getFlag p j) ∧
  (∀ (p v : Byte) (j : Nat), j < 8 →
    getFlag (setNZ p v) j = if j = 1 then decide (v.toNat = 0) else if j = 7 then decide (128 ≤ v.toNat) else getFlag p j) ∧
  (∀ (a m : Byte) (c : Bool),
    adcOverflow a m (adcResult a m c)
      = decide (a.toInt + m.toInt + c.toNat < -128 ∨ 127 < a.toInt + m.toInt + c.toNat) ∧
    (adcSum a m c).getLsbD 8 = decide (256 ≤ exactSum a m c) ∧
    (adcResult a m c).toNat = exactSum a m c % 256)

/-- The modes in arithmetic on numbers (40 R237-R244; the wrap of IZY's pointer is marked by the spec as from general
knowledge). The state is the one with the PC past the instruction. -/
def Obligations.AddressingModesExplicit : Prop :=
  ∀ (s : State) (z : Byte) (w : Word),
  (resolve .imp 0#16 s = ⟨0#16, false, s⟩) ∧ (resolve .acc 0#16 s = ⟨0#16, false, s⟩) ∧
  (resolve .imm (zeroPage z) s = ⟨s.cpu.pc - 1#16, false, s⟩) ∧
  (resolve .zp0 (zeroPage z) s = ⟨BitVec.ofNat 16 z.toNat, false, s⟩) ∧
  (resolve .zpx (zeroPage z) s = ⟨BitVec.ofNat 16 ((z.toNat + s.cpu.x.toNat) % 256), false, s⟩) ∧
  (resolve .zpy (zeroPage z) s = ⟨BitVec.ofNat 16 ((z.toNat + s.cpu.y.toNat) % 256), false, s⟩) ∧
  (resolve .abs w s = ⟨w, false, s⟩) ∧
  (resolve .abx w s = ⟨BitVec.ofNat 16 (w.toNat + s.cpu.x.toNat),
    decide ((w.toNat + s.cpu.x.toNat) % 65536 / 256 ≠ w.toNat / 256), s⟩) ∧
  (resolve .aby w s = ⟨BitVec.ofNat 16 (w.toNat + s.cpu.y.toNat),
    decide ((w.toNat + s.cpu.y.toNat) % 65536 / 256 ≠ w.toNat / 256), s⟩) ∧
  (∀ p : Nat, p = (Memory.read s.bus.ram ((z.toNat + s.cpu.x.toNat) % 256)).toNat
      + 256 * (Memory.read s.bus.ram ((z.toNat + s.cpu.x.toNat + 1) % 256)).toNat →
    resolve .izx (zeroPage z) s = ⟨BitVec.ofNat 16 p, false, s⟩) ∧
  (∀ p : Nat, p = (Memory.read s.bus.ram z.toNat).toNat + 256 * (Memory.read s.bus.ram ((z.toNat + 1) % 256)).toNat →
    resolve .izy (zeroPage z) s = ⟨BitVec.ofNat 16 (p + s.cpu.y.toNat),
      decide ((p + s.cpu.y.toNat) % 65536 / 256 ≠ p / 256), s⟩) ∧
  (((resolve .rel (zeroPage z) s).ea.toNat : Int) = ((s.cpu.pc.toNat : Int) + z.toInt) % 65536 ∧
    (resolve .rel (zeroPage z) s).st = s) ∧
  (∀ w2 : Word, w2.toNat = w.toNat / 256 * 256 + (w.toNat + 1) % 256 → storable w = true → storable w2 = true →
    resolve .ind w s = ⟨wordOf (peek s w) (peek s w2), false, s⟩) ∧
  (∀ w2 : Word, w2.toNat = w.toNat / 256 * 256 + (w.toNat + 1) % 256 →
    resolve .ind w s =
      ⟨wordOf (memRead s w).1 (memRead (memRead s w).2 w2).1, false, (memRead (memRead s w).2 w2).2⟩)

/-- The whole next state of each encoding (41 R260-R262, R266-R271). -/
def Obligations.LoadsAndTransfersComplete : Prop :=
  ∀ (s : State) (b : Byte) (w : Word), s.Ready →
  (∀ f ∈ ldaForms b w, exec f.instr s = .next (f.afterRead (fun m c => { c with a := m, p := setNZ c.p m }) s)) ∧
  (∀ f ∈ ldxForms b w, exec f.instr s = .next (f.afterRead (fun m c => { c with x := m, p := setNZ c.p m }) s)) ∧
  (∀ f ∈ ldyForms b w, exec f.instr s = .next (f.afterRead (fun m c => { c with y := m, p := setNZ c.p m }) s)) ∧
  (exec .tax s = .next (Form.afterRegisters ⟨.tax, 0xAA#8, .imp, 0#16, 2#8, false⟩ (fun c => { c with x := c.a, p := setNZ c.p c.a }) s)) ∧
  (exec .tay s = .next (Form.afterRegisters ⟨.tay, 0xA8#8, .imp, 0#16, 2#8, false⟩ (fun c => { c with y := c.a, p := setNZ c.p c.a }) s)) ∧
  (exec .txa s = .next (Form.afterRegisters ⟨.txa, 0x8A#8, .imp, 0#16, 2#8, false⟩ (fun c => { c with a := c.x, p := setNZ c.p c.x }) s)) ∧
  (exec .tya s = .next (Form.afterRegisters ⟨.tya, 0x98#8, .imp, 0#16, 2#8, false⟩ (fun c => { c with a := c.y, p := setNZ c.p c.y }) s)) ∧
  (exec .tsx s = .next (Form.afterRegisters ⟨.tsx, 0xBA#8, .imp, 0#16, 2#8, false⟩ (fun c => { c with x := c.s, p := setNZ c.p c.s }) s)) ∧
  (exec .txs s = .next (Form.afterRegisters ⟨.txs, 0x9A#8, .imp, 0#16, 2#8, false⟩ (fun c => { c with s := c.x }) s))

/-- The whole next state of each encoding (41 R263-R265). -/
def Obligations.StoresComplete : Prop :=
  ∀ (s : State) (b : Byte) (w : Word), s.Ready →
  (∀ f ∈ staForms b w, exec f.instr s = .next (f.afterStore (fun c => c.a) s)) ∧
  (∀ f ∈ stxForms b w, exec f.instr s = .next (f.afterStore (fun c => c.x) s)) ∧
  (∀ f ∈ styForms b w, exec f.instr s = .next (f.afterStore (fun c => c.y) s))

/-- The whole next state of each encoding, in exact arithmetic (42 R280, R282). The form EB is 44 R365 (decision D11 of the
spec), and that the decimal flag has no effect is 42 R281 (decision D15). -/
def Obligations.AddSubtractComplete : Prop :=
  ∀ (s : State) (b : Byte) (w : Word), s.Ready →
  (∀ f ∈ adcForms b w, exec f.instr s = .next (f.afterRead addTo s)) ∧
  (∀ f ∈ sbcForms b w, exec f.instr s = .next (f.afterRead (fun m c => addTo (~~~m) c) s))

/-- The whole next state of each encoding (42 R283-R289). -/
def Obligations.LogicAndCompareComplete : Prop :=
  ∀ (s : State) (b : Byte) (w : Word), s.Ready →
  (∀ f ∈ andForms b w, exec f.instr s = .next (f.afterRead (fun m c => { c with a := c.a &&& m, p := setNZ c.p (c.a &&& m) }) s)) ∧
  (∀ f ∈ oraForms b w, exec f.instr s = .next (f.afterRead (fun m c => { c with a := c.a ||| m, p := setNZ c.p (c.a ||| m) }) s)) ∧
  (∀ f ∈ eorForms b w, exec f.instr s = .next (f.afterRead (fun m c => { c with a := c.a ^^^ m, p := setNZ c.p (c.a ^^^ m) }) s)) ∧
  (∀ f ∈ cmpForms b w, exec f.instr s = .next (f.afterRead (fun m c => compareWith c.a m c) s)) ∧
  (∀ f ∈ cpxForms b w, exec f.instr s = .next (f.afterRead (fun m c => compareWith c.x m c) s)) ∧
  (∀ f ∈ cpyForms b w, exec f.instr s = .next (f.afterRead (fun m c => compareWith c.y m c) s)) ∧
  (∀ f ∈ bitForms b w, exec f.instr s = .next (f.afterRead (fun m c =>
    { c with p := withFlag (withFlag (withFlag c.p 1 (decide (c.a &&& m = 0#8))) 6 (m.getLsbD 6)) 7 (m.getLsbD 7) }) s))

/-- The whole next state of each encoding (42 R290-R295). -/
def Obligations.IncrementDecrementComplete : Prop :=
  ∀ (s : State) (b : Byte) (w : Word), s.Ready →
  (∀ f ∈ incForms b w, exec f.instr s = .next (f.afterModify (fun _ m => m + 1#8) (fun _ r c => { c with p := setNZ c.p r }) s)) ∧
  (∀ f ∈ decForms b w, exec f.instr s = .next (f.afterModify (fun _ m => m - 1#8) (fun _ r c => { c with p := setNZ c.p r }) s)) ∧
  (exec .inx s = .next (Form.afterRegisters ⟨.inx, 0xE8#8, .imp, 0#16, 2#8, false⟩ (fun c => { c with x := c.x + 1#8, p := setNZ c.p (c.x + 1#8) }) s)) ∧
  (exec .iny s = .next (Form.afterRegisters ⟨.iny, 0xC8#8, .imp, 0#16, 2#8, false⟩ (fun c => { c with y := c.y + 1#8, p := setNZ c.p (c.y + 1#8) }) s)) ∧
  (exec .dex s = .next (Form.afterRegisters ⟨.dex, 0xCA#8, .imp, 0#16, 2#8, false⟩ (fun c => { c with x := c.x - 1#8, p := setNZ c.p (c.x - 1#8) }) s)) ∧
  (exec .dey s = .next (Form.afterRegisters ⟨.dey, 0x88#8, .imp, 0#16, 2#8, false⟩ (fun c => { c with y := c.y - 1#8, p := setNZ c.p (c.y - 1#8) }) s))

/-- The whole next state of each encoding, in exact arithmetic (42 R296-R299). -/
def Obligations.ShiftsComplete : Prop :=
  ∀ (s : State) (b : Byte) (w : Word), s.Ready →
  (∀ f ∈ aslForms b w, exec f.instr s = .next (f.afterModify aslOf (fun m r c => withCarryNZ (decide (128 ≤ m.toNat)) r c) s)) ∧
  (∀ f ∈ lsrForms b w, exec f.instr s = .next (f.afterModify lsrOf (fun m r c => withCarryNZ (decide (m.toNat % 2 = 1)) r c) s)) ∧
  (∀ f ∈ rolForms b w, exec f.instr s = .next (f.afterModify rolOf (fun m r c => withCarryNZ (decide (128 ≤ m.toNat)) r c) s)) ∧
  (∀ f ∈ rorForms b w, exec f.instr s = .next (f.afterModify rorOf (fun m r c => withCarryNZ (decide (m.toNat % 2 = 1)) r c) s))

/-- The whole next state (43 R310-R312). `stackIndex` is the RAM index of `0x0100 | S`. -/
def Obligations.JumpsComplete : Prop :=
  ∀ (s : State) (b : Byte) (w : Word), s.Ready →
  (∀ f ∈ jmpForms b w, exec f.instr s = .next (f.closed s (f.target s).st { (f.target s).st.cpu with pc := (f.target s).ea })) ∧
  (∀ w2 : Word, w2.toNat = w.toNat / 256 * 256 + (w.toNat + 1) % 256 → storable w = true → storable w2 = true →
    exec (.jmpInd w) s = .next (s.setCpu { s.cpu with
      opcode := 0x6C#8, mode := .ind, instrCount := s.cpu.instrCount + 1#64, effAddr := wordOf (peek s w) (peek s w2)
      pc := wordOf (peek s w) (peek s w2), cyclesLeft := 5#8 })) ∧
  exec (.jsrAbs w) s = .next ((s.setBus { s.bus with
      ram := Memory.write (Memory.write s.bus.ram (stackIndex s.cpu.s) (hiByte (s.cpu.pc + 2#16)))
        (stackIndex (s.cpu.s - 1#8)) (loByte (s.cpu.pc + 2#16)) }).setCpu { s.cpu with
      opcode := 0x20#8, mode := .abs, instrCount := s.cpu.instrCount + 1#64, effAddr := w, pc := w
      s := s.cpu.s - 2#8, cyclesLeft := 6#8 }) ∧
  exec .rts s = .next (s.setCpu { s.cpu with
      opcode := 0x60#8, mode := .imp, instrCount := s.cpu.instrCount + 1#64, effAddr := 0#16
      pc := wordOf (Memory.read s.bus.ram (stackIndex (s.cpu.s + 1#8)))
        (Memory.read s.bus.ram (stackIndex (s.cpu.s + 2#8))) + 1#16
      s := s.cpu.s + 2#8, cyclesLeft := 6#8 })

/-- The three traps as whole next states (60 R388-R390, 43 R313). The pushed status sets bit 5 and clears bit 4 for an
interrupt and sets both for BRK (decision D16 of the spec). Which latches are cleared is the spec's decision D6, the IRQ
sequence and its 7 cycles its decision D7. -/
def Obligations.TrapSavesAndChanges : Prop :=
  ∀ s : State, s.Ready →
  (s.cpu.nmiDue = true →
    dispatch s = .next ((withTrapFrame s s.cpu.pc ((s.cpu.p &&& 0xEF#8) ||| 0x20#8)).setCpu { s.cpu with
      s := s.cpu.s - 3#8, p := s.cpu.p ||| 0x04#8, pc := peek16 s 0xFFFA#16
      nmiPending := false, nmiDue := false, cyclesLeft := 7#8 })) ∧
  (s.cpu.nmiDue = false → s.cpu.irqDue = true →
    dispatch s = .next ((withTrapFrame s s.cpu.pc ((s.cpu.p &&& 0xEF#8) ||| 0x20#8)).setCpu { s.cpu with
      s := s.cpu.s - 3#8, p := s.cpu.p ||| 0x04#8, pc := peek16 s 0xFFFE#16
      irqDue := false, cyclesLeft := 7#8 })) ∧
  exec .brk s = .next ((withTrapFrame s (s.cpu.pc + 2#16) (s.cpu.p ||| 0x30#8)).setCpu { s.cpu with
      s := s.cpu.s - 3#8, p := s.cpu.p ||| 0x04#8, pc := peek16 s 0xFFFE#16
      opcode := 0x00#8, mode := .imp, instrCount := s.cpu.instrCount + 1#64, effAddr := 0#16, cyclesLeft := 7#8 })

/-- The whole next state of each branch (43 R316-R324, 40 R230). -/
def Obligations.BranchesComplete : Prop :=
  ∀ (s : State) (b : Byte), s.Ready → ∀ f ∈ branchForms b, ∀ next target : Word,
  next = s.cpu.pc + 2#16 → target = next + b.signExtend 16 →
  exec f.1 s = .next (s.setCpu { s.cpu with
    opcode := f.2.1, mode := .rel, instrCount := s.cpu.instrCount + 1#64, effAddr := target
    pc := if f.2.2 s.cpu.p then target else next
    cyclesLeft :=
      if f.2.2 s.cpu.p then (if target.toNat / 256 = next.toNat / 256 then 3#8 else 4#8) else 2#8 })

/-- The whole next state of each (43 R315, R326, R328-R330, R332-R335). -/
def Obligations.StackAndFlagInstructionsComplete : Prop :=
  ∀ s : State, s.Ready →
  exec .rti s = .next (s.setCpu { s.cpu with
      opcode := 0x40#8, mode := .imp, instrCount := s.cpu.instrCount + 1#64, effAddr := 0#16
      p := (Memory.read s.bus.ram (stackIndex (s.cpu.s + 1#8)) &&& 0xEF#8) ||| 0x20#8
      pc := wordOf (Memory.read s.bus.ram (stackIndex (s.cpu.s + 2#8)))
        (Memory.read s.bus.ram (stackIndex (s.cpu.s + 3#8)))
      s := s.cpu.s + 3#8, cyclesLeft := 6#8 }) ∧
  exec .pha s = .next ((s.setBus { s.bus with ram := Memory.write s.bus.ram (stackIndex s.cpu.s) s.cpu.a }).setCpu
    { s.cpu with
      opcode := 0x48#8, mode := .imp, pc := s.cpu.pc + 1#16, instrCount := s.cpu.instrCount + 1#64, effAddr := 0#16
      s := s.cpu.s - 1#8, cyclesLeft := 3#8 }) ∧
  exec .pla s = .next (s.setCpu { s.cpu with
      opcode := 0x68#8, mode := .imp, pc := s.cpu.pc + 1#16, instrCount := s.cpu.instrCount + 1#64, effAddr := 0#16
      a := Memory.read s.bus.ram (stackIndex (s.cpu.s + 1#8))
      p := setNZ s.cpu.p (Memory.read s.bus.ram (stackIndex (s.cpu.s + 1#8)))
      s := s.cpu.s + 1#8, cyclesLeft := 4#8 }) ∧
  (exec .clc s = .next (Form.afterRegisters ⟨.clc, 0x18#8, .imp, 0#16, 2#8, false⟩ (fun c => { c with p := c.p &&& 0xFE#8 }) s)) ∧
  (exec .sec s = .next (Form.afterRegisters ⟨.sec, 0x38#8, .imp, 0#16, 2#8, false⟩ (fun c => { c with p := c.p ||| 0x01#8 }) s)) ∧
  (exec .sei s = .next (Form.afterRegisters ⟨.sei, 0x78#8, .imp, 0#16, 2#8, false⟩ (fun c => { c with p := c.p ||| 0x04#8 }) s)) ∧
  (exec .cld s = .next (Form.afterRegisters ⟨.cld, 0xD8#8, .imp, 0#16, 2#8, false⟩ (fun c => { c with p := c.p &&& 0xF7#8 }) s)) ∧
  (exec .sed s = .next (Form.afterRegisters ⟨.sed, 0xF8#8, .imp, 0#16, 2#8, false⟩ (fun c => { c with p := c.p ||| 0x08#8 }) s)) ∧
  (exec .clv s = .next (Form.afterRegisters ⟨.clv, 0xB8#8, .imp, 0#16, 2#8, false⟩ (fun c => { c with p := c.p &&& 0xBF#8 }) s))

/-- Instructions whose rules carry a decision of the spec: CLI (43 R331, D40), PHP and PLP (43 R325, R327, D16), LAX (44 R357,
D12), the NOPs (43 R336, 44 R364, D11). -/
def Obligations.DecidedInstructionsComplete : Prop :=
  ∀ (s : State) (b : Byte) (w : Word), s.Ready →
  (exec .cli s = .next (Form.afterRegisters ⟨.cli, 0x58#8, .imp, 0#16, 2#8, false⟩ (fun c => { c with p := c.p &&& 0xFB#8 }) s)) ∧
  exec .php s = .next ((s.setBus { s.bus with
      ram := Memory.write s.bus.ram (stackIndex s.cpu.s) (s.cpu.p ||| 0x30#8) }).setCpu { s.cpu with
      opcode := 0x08#8, mode := .imp, pc := s.cpu.pc + 1#16, instrCount := s.cpu.instrCount + 1#64, effAddr := 0#16
      s := s.cpu.s - 1#8, cyclesLeft := 3#8 }) ∧
  exec .plp s = .next (s.setCpu { s.cpu with
      opcode := 0x28#8, mode := .imp, pc := s.cpu.pc + 1#16, instrCount := s.cpu.instrCount + 1#64, effAddr := 0#16
      p := (Memory.read s.bus.ram (stackIndex (s.cpu.s + 1#8)) &&& 0xEF#8) ||| 0x20#8
      s := s.cpu.s + 1#8, cyclesLeft := 4#8 }) ∧
  (∀ f ∈ laxForms b w, exec f.instr s = .next (f.afterRead (fun m c => { c with a := m, x := m, p := setNZ c.p m }) s)) ∧
  (∀ f ∈ nopForms b w, exec f.instr s = .next (f.afterRead (fun _ c => c) s))

/-- The whole next state of each encoding (44 R351-R356). -/
def Obligations.CombinedModifyInstructionsComplete : Prop :=
  ∀ (s : State) (b : Byte) (w : Word), s.Ready →
  (∀ f ∈ sloForms b w, exec f.instr s = .next (f.afterModify aslOf (fun m r c =>
    { c with a := c.a ||| r, p := setNZ (withFlag c.p 0 (decide (128 ≤ m.toNat))) (c.a ||| r) }) s)) ∧
  (∀ f ∈ rlaForms b w, exec f.instr s = .next (f.afterModify rolOf (fun m r c =>
    { c with a := c.a &&& r, p := setNZ (withFlag c.p 0 (decide (128 ≤ m.toNat))) (c.a &&& r) }) s)) ∧
  (∀ f ∈ sreForms b w, exec f.instr s = .next (f.afterModify lsrOf (fun m r c =>
    { c with a := c.a ^^^ r, p := setNZ (withFlag c.p 0 (decide (m.toNat % 2 = 1))) (c.a ^^^ r) }) s)) ∧
  (∀ f ∈ rraForms b w, exec f.instr s = .next (f.afterModify rorOf (fun m r c => addTo r { c with p := withFlag c.p 0 (decide (m.toNat % 2 = 1)) }) s)) ∧
  (∀ f ∈ dcpForms b w, exec f.instr s = .next (f.afterModify (fun _ m => m - 1#8) (fun _ r c => compareWith c.a r c) s)) ∧
  (∀ f ∈ iscForms b w, exec f.instr s = .next (f.afterModify (fun _ m => m + 1#8) (fun _ r c => addTo (~~~r) c) s))

/-- The whole next state of each encoding (44 R358-R363). That ANC, ALR, ARR, AXS and LAS have these results and flags is the
spec's decision D13 (44 R350). -/
def Obligations.StoreAndImmediateCombinationsComplete : Prop :=
  ∀ (s : State) (b : Byte) (w : Word), s.Ready →
  (∀ f ∈ saxForms b w, exec f.instr s = .next (f.afterStore (fun c => c.a &&& c.x) s)) ∧
  (∀ f ∈ ancForms b w, exec f.instr s = .next (f.afterRead (fun m c =>
    { c with a := c.a &&& m, p := withFlag (setNZ c.p (c.a &&& m)) 0 ((c.a &&& m).getLsbD 7) }) s)) ∧
  (∀ f ∈ alrForms b w, exec f.instr s = .next (f.afterRead (fun m c => withCarryNZ ((c.a &&& m).getLsbD 0) (lsrOf c.p (c.a &&& m))
    { c with a := lsrOf c.p (c.a &&& m) }) s)) ∧
  (∀ f ∈ arrForms b w, exec f.instr s = .next (f.afterRead (fun m c =>
    { c with a := rorOf c.p (c.a &&& m), p := withFlag (withFlag (setNZ c.p (rorOf c.p (c.a &&& m))) 0
      ((rorOf c.p (c.a &&& m)).getLsbD 6)) 6 ((rorOf c.p (c.a &&& m)).getLsbD 6 != (rorOf c.p (c.a &&& m)).getLsbD 5) }) s)) ∧
  (∀ f ∈ axsForms b w, exec f.instr s = .next (f.afterRead (fun m c => withCarryNZ (decide (m.toNat ≤ (c.a &&& c.x).toNat)) ((c.a &&& c.x) - m)
    { c with x := (c.a &&& c.x) - m }) s)) ∧
  (∀ f ∈ lasForms b w, exec f.instr s = .next (f.afterRead (fun m c =>
    { c with a := m &&& c.s, x := m &&& c.s, s := m &&& c.s, p := setNZ c.p (m &&& c.s) }) s))

/-- The kill path (44 R370-R376, 60 R393, decision D14 of the spec: every kill opcode loads CyclesLeft with 2; log 10 says how the
counts 5 and 6 of R372-R375 are read). -/
def Obligations.KillOpcodesKill : Prop :=
  ∀ (s : State) (b : Byte) (w : Word), s.Ready →
  ∀ f ∈ kilForms b w ++ ahxForms b w ++ tasForms b w ++ shyForms b w ++ shxForms b w ++ xaaForms b w,
    exec f.instr s = .next ((f.target s).st.setCpu { (f.begun s).cpu with
      effAddr := (f.target s).ea, cyclesLeft := 2#8, isKilled := true })

/-- There are no synchronous faults (60 R380); the one access the spec refuses is a nametable access under FOUR (20 R114, the
spec's decision D41). -/
def Obligations.EveryInstructionCompletes : Prop :=
  (∀ (i : Instr) (s : State), s.Ready → ∃ t, exec i s = .next t ∧ t.Ready ∧
    t.cpu.opcode = opcodeOf i ∧ t.cpu.instrCount = s.cpu.instrCount + 1#64 ∧ t.cpu.mode = (opInfo (opcodeOf i)).mode) ∧
  (∀ (i : Instr) (s : State), s.refusal = none →
    (∃ t, exec i s = .next t) ∨ (mirrorMode s.cart = .four ∧ exec i s = .refused .fourScreenUnmodelled))

/-- The frame of every instruction on the CPU (10 R35-R43): the lists of opcodes and flags above are the rules' own. -/
def Obligations.RegisterFrame : Prop :=
  ∀ (i : Instr) (s t : State), exec i s = .next t →
  (opcodeOf i ∉ opcodesWritingA → t.cpu.a = s.cpu.a) ∧ (opcodeOf i ∉ opcodesWritingX → t.cpu.x = s.cpu.x) ∧
  (opcodeOf i ∉ opcodesWritingY → t.cpu.y = s.cpu.y) ∧ (opcodeOf i ∉ opcodesWritingS → t.cpu.s = s.cpu.s) ∧
  t.cpu.p &&& ~~~flagMask (opcodeOf i) = s.cpu.p &&& ~~~flagMask (opcodeOf i) ∧
  (opcodeOf i ∉ killOpcodes → t.cpu.isKilled = s.cpu.isKilled) ∧
  t.cpu.totalCycles = s.cpu.totalCycles ∧ t.cpu.phase = s.cpu.phase ∧
  t.cpu.nmiLinePrev = s.cpu.nmiLinePrev ∧ t.cpu.nmiEdgeDelay = s.cpu.nmiEdgeDelay ∧
  t.cpu.nmiPending = s.cpu.nmiPending ∧ t.cpu.irqLevelDelay = s.cpu.irqLevelDelay ∧
  t.cpu.irqAsserted = s.cpu.irqAsserted ∧ t.cpu.nmiDue = s.cpu.nmiDue ∧ t.cpu.irqDue = s.cpu.irqDue

/-- The frame of every instruction on memory. `storedAddrs` computes the addresses stored to with the functions the meanings
use; `sameCell` says that two addresses name one byte of RAM or PRG RAM. -/
def Obligations.MemoryFrame : Prop :=
  ∀ (i : Instr) (s t : State), exec i s = .next t →
  (∀ a : Word, storable a = true → a < 0x8000#16 → (∀ x ∈ storedAddrs i s, ¬ sameCell a x) → peek t a = peek s a) ∧
  ((∀ x ∈ storedAddrs i s, ¬ (0x2000#16 ≤ x ∧ x < 0x4000#16)) →
    t.bus.vram = s.bus.vram ∧ t.bus.palette = s.bus.palette ∧ t.bus.pattern = s.bus.pattern ∧ t.ppu.oam = s.ppu.oam) ∧
  ((∀ x ∈ storedAddrs i s, x < 0x8000#16) → ∀ a : Word, 0x8000#16 ≤ a → peek t a = peek s a) ∧
  t.cart.rom = s.cart.rom

/-- The frame of every instruction on the other units (20 R126, R127). That what leaves the core is the field `out` is the
model's choice (log 6). -/
def Obligations.UnitFrame : Prop :=
  ∀ (i : Instr) (s t : State), exec i s = .next t →
  ((∀ x ∈ storedAddrs i s, ¬ (0x2000#16 ≤ x ∧ x < 0x4000#16)) →
    t.ppu = { s.ppu with
      status := ⟨s.ppu.status.current, t.ppu.status.new⟩, w := t.ppu.w, v := t.ppu.v, readBuffer := t.ppu.readBuffer }) ∧
  (0x4014#16 ∉ storedAddrs i s → t.bus.dmaState = s.bus.dmaState ∧ t.bus.dmaBase = s.bus.dmaBase ∧
    t.bus.dmaCount = s.bus.dmaCount ∧ t.bus.dmaData = s.bus.dmaData ∧ t.bus.dmaReadPhase = s.bus.dmaReadPhase) ∧
  ((∀ x ∈ storedAddrs i s, x < 0x8000#16) → t.cart = { s.cart with prgRam := t.cart.prgRam }) ∧
  ((∀ x ∈ storedAddrs i s, ¬ (0x4000#16 ≤ x ∧ x < 0x4018#16)) → t.out = s.out) ∧
  t.bus.busCycle = s.bus.busCycle ∧ t.bus.nmiLine = s.bus.nmiLine ∧ t.bus.irqLine = s.bus.irqLine ∧
  t.params = s.params ∧ t.cart.mapper = s.cart.mapper ∧ t.cart.prgBanks = s.cart.prgBanks ∧
  t.cart.chrBanks = s.cart.chrBanks ∧ t.cart.mirror = s.cart.mirror ∧ t.cart.battery = s.cart.battery

/-- What the handler or subroutine finds on return (43 R314, 60 R394, R395). P has its stored form, B0 = 0 and B1 = 1 (10 R39),
which the last clauses assume. -/
def Obligations.RoundTripsThroughTheStack : Prop :=
  ∀ (s : State) (w : Word), s.Ready → Memory.wf s.bus.ram → s.cpu.p.getLsbD 4 = false → s.cpu.p.getLsbD 5 = true →
  (∃ t u, exec (.jsrAbs w) s = .next t ∧ exec .rts t = .next u ∧ u.cpu.pc = s.cpu.pc + 3#16 ∧ u.cpu.s = s.cpu.s) ∧
  (∀ a : Byte, ∃ t u, exec .pha s = .next t ∧ exec .pla (t.setA a) = .next u ∧ u.cpu.a = s.cpu.a ∧ u.cpu.s = s.cpu.s) ∧
  (∀ p : Byte, ∃ t u, exec .php s = .next t ∧ exec .plp (t.setP p) = .next u ∧ u.cpu.p = s.cpu.p ∧ u.cpu.s = s.cpu.s) ∧
  (∃ u, exec .rti (nmiSequence s) = .next u ∧ u.cpu.pc = s.cpu.pc ∧ u.cpu.p = s.cpu.p ∧ u.cpu.s = s.cpu.s) ∧
  (∃ u, exec .rti (irqSequence s) = .next u ∧ u.cpu.pc = s.cpu.pc ∧ u.cpu.p = s.cpu.p ∧ u.cpu.s = s.cpu.s) ∧
  (∃ t u, exec .brk s = .next t ∧ exec .rti t = .next u ∧ u.cpu.pc = s.cpu.pc + 2#16 ∧ u.cpu.p = s.cpu.p ∧
    u.cpu.s = s.cpu.s)

/-- Priority and instruction boundaries (60 R385). -/
def Obligations.InterruptPriority : Prop :=
  ∀ s : State, s.Ready →
  (s.cpu.nmiDue = true → s.cpu.irqDue = true → ∃ t, dispatch s = .next t ∧ dispatch s = finish (nmiSequence s) ∧
    t.cpu.p.getLsbD 2 = true ∧ t.cpu.irqDue = true ∧ (lookahead { t.cpu with cyclesLeft := 1#8 }).irqDue = false) ∧
  (s.cpu.cyclesLeft ≠ 0#8 → dispatchIfDue s = .next s)

/-- The latches (40 R223-R225; decisions D6 and D40 of the spec). -/
def Obligations.InterruptDetection : Prop :=
  ∀ (c : Cpu) (l1 l2 : Bool),
  (detectNmi (detectNmi c l1) l2).nmiPending
    = (c.nmiPending || c.nmiEdgeDelay || (l1 && !c.nmiLinePrev)) ∧
  (detectNmi c l1).nmiPending = (c.nmiPending || c.nmiEdgeDelay) ∧
  (detectIrq (detectIrq c l1) l2).irqAsserted = l1 ∧
  (c.cyclesLeft = 1#8 → (lookahead c).nmiDue = c.nmiPending ∧
    (lookahead c).irqDue = (c.irqAsserted && !c.p.getLsbD 2)) ∧
  (c.cyclesLeft ≠ 1#8 → lookahead c = c)

/-- The stall (20 R121). -/
def Obligations.DmaStallsTheCpu : Prop :=
  (∀ s t : State, s.bus.dmaState = .running → step s = .next t → t.cpu = s.cpu) ∧
  (∀ s : State, s.bus.dmaState ≠ .running → cpuPart s = andThen (cpuTick s) cpuTick)

/-- One DMA step (20 R118-R120; decision D19 of the spec). -/
def Obligations.DmaStepCases : Prop :=
  ∀ s : State,
  (s.bus.dmaState = .idle → dmaStep s = s) ∧
  (s.bus.dmaState = .waiting → dmaStep s =
    if (s.bus.busCycle.toNat + 1) % 2 = 0 then s.setBus { s.bus with dmaState := .running } else s) ∧
  (s.bus.dmaState = .running → s.bus.dmaReadPhase = true →
    dmaStep s = (memRead s (s.bus.dmaBase + BitVec.ofNat 16 s.bus.dmaCount)).2.setBus { s.bus with
      dmaData := peek s (s.bus.dmaBase + BitVec.ofNat 16 s.bus.dmaCount), dmaReadPhase := false }) ∧
  (s.bus.dmaState = .running → s.bus.dmaReadPhase = false → s.bus.dmaCount < 256 →
    dmaStep s = (s.setPpu { s.ppu with
      oam := Memory.write s.ppu.oam s.ppu.oamAddr.toNat s.bus.dmaData
      oamAddr := s.ppu.oamAddr + 1#8, oamDataReg := ⟨s.ppu.oamDataReg.current, s.bus.dmaData⟩ }).setBus { s.bus with
      dmaCount := s.bus.dmaCount + 1, dmaReadPhase := true
      dmaState := if s.bus.dmaCount = 255 then .idle else .running })

/-- The whole transfer (20 R119, R120, R122; the spec marks the timing as derived and as its decision D19). -/
def Obligations.DmaCopiesPage : Prop :=
  ∀ s : State, s.Ready → Memory.wf s.ppu.oam → s.bus.dmaState = .running → s.bus.dmaCount = 0 →
    s.bus.dmaReadPhase = true → (∀ k < 256, storable (s.bus.dmaBase + BitVec.ofNat 16 k) = true) →
  ∃ t, runSteps 512 s = .next t ∧ t.bus.dmaState = .idle ∧ t.bus.dmaCount = 256 ∧
    (∀ k < 256, Memory.read t.ppu.oam ((s.ppu.oamAddr.toNat + k) % 256)
      = peek s (s.bus.dmaBase + BitVec.ofNat 16 k)) ∧
    t.ppu.oamAddr = s.ppu.oamAddr ∧ t.cpu = s.cpu ∧ t.bus.ram = s.bus.ram ∧ t.cart = s.cart ∧
    t.bus.busCycle = s.bus.busCycle + 512#64

/-- The read decode in its priority order (20 R101, R107). That an unmapped address reads 0 is the spec's decision D17 (R108), the
external IO window its decision D18 (R106); that the window's byte is a function of the address and the cycle and that the
read changes nothing in the core are the model's choices (logs 5 and 23). -/
def Obligations.CpuReadDecode : Prop :=
  ∀ (s : State) (a : Word),
  (∀ v, mapperReadCpu s.cart a = some v → memRead s a = (v, s)) ∧
  (mapperReadCpu s.cart a = none → memRead s a =
    if a.toNat < 0x2000 then (Memory.read s.bus.ram (a.toNat % 0x800), s)
    else if a.toNat < 0x4000 then ppuCpuRead s (BitVec.ofNat 3 (a.toNat % 8))
    else if a.toNat < 0x4018 then (Config.ioRead a s.bus.busCycle, s)
    else (0#8, s))

/-- The write decode in its priority order (20 R102, R107) with the PPU registers 1 to 4 (61 R428; numbering and auto-increment
marked by the spec as from general knowledge, staging its decisions D4 and D29). Arming sets WAITING, base v * 256, count 0,
read phase, whatever the engine does (R117, decision D19). The IO window is decision D18 (R106), no effect elsewhere D17
(R108). That an IO write is recorded in the field `out` and changes nothing else is the model's choice (logs 6 and 23). -/
def Obligations.CpuWriteDecode : Prop :=
  ∀ (s : State) (a : Word) (v : Byte),
  (∀ c, mapperWriteCpu s.cart a v = some c → memWrite s a v = { s with cart := c }) ∧
  (mapperWriteCpu s.cart a v = none → memWrite s a v =
    if a.toNat < 0x2000 then s.setBus { s.bus with ram := Memory.write s.bus.ram (a.toNat % 0x800) v }
    else if a.toNat < 0x4000 then
      if a.toNat % 8 = 1 then s.setPpu { s.ppu with mask := ⟨s.ppu.mask.current, v⟩ }
      else if a.toNat % 8 = 2 then s
      else if a.toNat % 8 = 3 then
        s.setPpu { s.ppu with oamAddr := v, oamAddrReg := ⟨s.ppu.oamAddrReg.current, v⟩ }
      else if a.toNat % 8 = 4 then
        s.setPpu { s.ppu with
          oam := Memory.write s.ppu.oam s.ppu.oamAddr.toNat v
          oamAddr := BitVec.ofNat 8 ((s.ppu.oamAddr.toNat + 1) % 256)
          oamDataReg := ⟨s.ppu.oamDataReg.current, v⟩ }
      else ppuCpuWrite s (BitVec.ofNat 3 (a.toNat % 8)) v
    else if a.toNat = 0x4014 then s.setBus { s.bus with
      dmaState := .waiting, dmaBase := BitVec.ofNat 16 (v.toNat * 256), dmaCount := 0, dmaReadPhase := true }
    else if a.toNat < 0x4018 then
      { s with out := { s.out with ioWrites := s.out.ioWrites ++ [⟨a, v, s.bus.busCycle⟩] } }
    else s) ∧
  (Memory.wf s.ppu.oam → 0x2000 ≤ a.toNat → a.toNat < 0x4000 → a.toNat % 8 = 4 → ∀ i < 256,
    Memory.read (memWrite s a v).ppu.oam i = if i = s.ppu.oamAddr.toNat then v else Memory.read s.ppu.oam i)

/-- The reads that change state (20 R126). R126 lists the IO window among them, with unknown effects; that its reads change nothing
in the core is the model's choice (log 23), and the refusal mark under FOUR is 20 R114 (decision D41) as log 14 reports it. -/
def Obligations.ReadSideEffects : Prop :=
  ∀ (s : State) (a : Word),
  (¬ (0x2000 ≤ a.toNat ∧ a.toNat < 0x4000 ∧ (a.toNat % 8 = 2 ∨ a.toNat % 8 = 7)) →
    (memRead s a).2 = s ∧ memRead (memRead s a).2 a = memRead s a) ∧
  (0x2000 ≤ a.toNat ∧ a.toNat < 0x4000 ∧ a.toNat % 8 = 2 → (memRead s a).2 = s.setPpu { s.ppu with
    status := ⟨s.ppu.status.current, s.ppu.status.new &&& 0x7F#8⟩, w := false }) ∧
  (0x2000 ≤ a.toNat ∧ a.toNat < 0x4000 ∧ a.toNat % 8 = 7 → mirrorMode s.cart ≠ .four →
    ∃ v r, (memRead s a).2 = s.setPpu { s.ppu with v := v, readBuffer := r }) ∧
  (0x2000 ≤ a.toNat ∧ a.toNat < 0x4000 ∧ a.toNat % 8 = 7 → mirrorMode s.cart = .four →
    ∃ v r, (memRead s a).2 = { s.setPpu { s.ppu with v := v, readBuffer := r } with
      refusal := if s.ppu.v.toNat % 0x4000 < 0x2000 then s.refusal else some .fourScreenUnmodelled }) ∧
  (mirrorMode s.cart ≠ .four → ∀ q : PpuAddr, (ppuRead s q).2 = s)

/-- Mirroring as read after write (20 R103, R110-R114; the spec marks R103 as derived, single-page mirroring as its decision D31
and FOUR as its decision D41), and PRG RAM (21 R160, R161, R177; under MMC1 the spec's decision D35). -/
def Obligations.StoresReadBack : Prop :=
  (∀ (s : State) (a b : Word) (v : Byte), Memory.wf s.bus.ram → a.toNat < 0x2000 → b.toNat < 0x2000 →
    peek (memWrite s a v) b = if a.toNat % 0x800 = b.toNat % 0x800 then v else peek s b) ∧
  (∀ (s : State) (a b : Word) (v : Byte), Memory.wf s.cart.prgRam → 0x6000 ≤ a.toNat → a.toNat < 0x8000 →
    0x6000 ≤ b.toNat → b.toNat < 0x8000 → peek (memWrite s a v) b = if a = b then v else peek s b) ∧
  (∀ (s : State) (a b : PpuAddr) (v : Byte), Memory.wf s.bus.vram → mirrorMode s.cart ≠ .four →
    0x2000 ≤ a.toNat → a.toNat < 0x3F00 → 0x2000 ≤ b.toNat → b.toNat < 0x3F00 →
    (ppuRead (ppuWrite s a v) b).1 =
      if nametableCell (mirrorMode s.cart) a = nametableCell (mirrorMode s.cart) b then v else (ppuRead s b).1) ∧
  (∀ (s : State) (a b : PpuAddr) (v : Byte), Memory.wf s.bus.pattern → s.cart.chrBanks = 0 →
    a.toNat < 0x2000 → b.toNat < 0x2000 → (ppuRead (ppuWrite s a v) b).1 = if a = b then v else (ppuRead s b).1) ∧
  (∀ (s : State) (a : PpuAddr) (v : Byte), mirrorMode s.cart = .four → 0x2000 ≤ a.toNat → a.toNat < 0x3F00 →
    (ppuRead s a).2 = { s with refusal := some .fourScreenUnmodelled } ∧
    ppuWrite s a v = { s with refusal := some .fourScreenUnmodelled })

/-- The palette index (20 R115), read and write. -/
def Obligations.PaletteAliases : Prop :=
  (∀ (s : State) (a : PpuAddr), 0x3F00 ≤ a.toNat → ppuRead s a = (Memory.read s.bus.palette (paletteCell a), s)) ∧
  (∀ (s : State) (a b : PpuAddr) (v : Byte), Memory.wf s.bus.palette → 0x3F00 ≤ a.toNat → 0x3F00 ≤ b.toNat →
    (ppuRead (ppuWrite s a v) b).1 = if paletteCell a = paletteCell b then v else (ppuRead s b).1)

/-- The PRG map (21 R160, R161, R172, R173, R177). NROM's ignored ROM writes and its view of more than two banks are the spec's
decision D33, MMC1's PRG RAM its decision D35, the remainder by the size its decision D36; the MMC1 map is marked by it as
from general knowledge. -/
def Obligations.PrgMapping : Prop :=
  ∀ (s : State) (a : Word) (h : Nat), h = a.toNat - 0x8000 →
  (0x6000 ≤ a.toNat → a.toNat < 0x8000 → peek s a = Memory.read s.cart.prgRam (a.toNat - 0x6000) ∧
    ∀ v, memWrite s a v = { s with cart := { s.cart with prgRam := Memory.write s.cart.prgRam (a.toNat - 0x6000) v } }) ∧
  (0x8000 ≤ a.toNat → s.cart.mapper = .nrom →
    peek s a = Memory.read s.cart.rom (if s.cart.prgBanks = 1 then h % 0x4000 else h) ∧ ∀ v, memWrite s a v = s) ∧
  (0x8000 ≤ a.toNat → s.cart.mapper = .mmc1 → ∀ bank mode : Nat,
    bank = s.cart.prgBank.toNat % 16 → mode = s.cart.control.toNat / 4 % 4 →
    peek s a = Memory.read s.cart.rom ((0x4000 * (
      if mode ≤ 1 then bank / 2 * 2 + h / 0x4000
      else if mode = 2 then (if h < 0x4000 then 0 else bank)
      else (if h < 0x4000 then bank else s.cart.prgBanks - 1)) + h % 0x4000) % (s.cart.prgBanks * 16384)))

/-- The serial port (21 R170; the spec marks parts as from general knowledge and as its decision D34). -/
def Obligations.Mmc1SerialPort : Prop :=
  ∀ (s : State) (a1 a2 a3 a4 a5 : Word) (v1 v2 v3 v4 v5 : Byte), s.cart.mapper = .mmc1 →
    (∀ a ∈ [a1, a2, a3, a4, a5], 0x8000 ≤ a.toNat) →
  ((∀ v ∈ [v1, v2, v3, v4, v5], v.getLsbD 7 = false) → s.cart.shift = 0x10#5 → ∀ value : BitVec 5,
    value.toNat = v1.toNat % 2 + v2.toNat % 2 * 2 + v3.toNat % 2 * 4 + v4.toNat % 2 * 8 + v5.toNat % 2 * 16 →
    memWrite (memWrite (memWrite (memWrite (memWrite s a1 v1) a2 v2) a3 v3) a4 v4) a5 v5 =
      { s with cart :=
        if a5.toNat / 0x2000 % 4 = 0 then { s.cart with control := value }
        else if a5.toNat / 0x2000 % 4 = 1 then { s.cart with chrBank0 := value }
        else if a5.toNat / 0x2000 % 4 = 2 then { s.cart with chrBank1 := value }
        else { s.cart with prgBank := value } }) ∧
  (v1.getLsbD 7 = true →
    memWrite s a1 v1 = { s with cart := { s.cart with shift := 0x10#5, control := s.cart.control ||| 0x0C#5 } })

/-- The clocked register primitive (10 R31-R33). -/
def Obligations.ClockedRegisterLaw : Prop :=
  ∀ (r : Clocked) (v : Byte) (b j : Nat), b < 8 → j < 8 →
  (r.write v).read = r.read ∧ (r.write v).clock.read = v ∧ r.clock.clock = r.clock ∧ r.clock = ⟨r.new, r.new⟩ ∧
  r.reset = ⟨0#8, 0#8⟩ ∧ r.writeImmediate v = ⟨v, v⟩ ∧ r.test b = r.current.getLsbD b ∧
  (r.set b).current = r.current ∧ (r.clear b).current = r.current ∧
  (r.set b).new.getLsbD j = (r.new.getLsbD j || decide (j = b)) ∧
  (r.clear b).new.getLsbD j = (r.new.getLsbD j && decide (j ≠ b))

/-- Commit and NMI output (61 R420, R427, R438; decisions D4 and D46 of the spec). -/
def Obligations.RegisterCommitAndNmiLine : Prop :=
  ∀ (j : Nat) (s : State),
  (ppuDotAt j s).ppu.mask = ⟨if j = 1 then s.ppu.mask.new else s.ppu.mask.current, s.ppu.mask.new⟩ ∧
  (ppuDotAt j s).ppu.ctrl = ⟨if j = 1 then s.ppu.ctrl.new else s.ppu.ctrl.current, s.ppu.ctrl.new⟩ ∧
  (ppuDotAt j s).ppu.status.current
    = (if j = 1 then (ppuDotAt j s).ppu.status.new else s.ppu.status.current) ∧
  (ppuDotAt j s).bus.nmiLine = (s.ppu.status.current.getLsbD 7 && s.ppu.ctrl.current.getLsbD 7)

/-- The scroll and address writes (61 R428, R434, R435); the bit assignment is the spec's decision D29. -/
def Obligations.ScrollAndAddressWrites : Prop :=
  ∀ (s : State) (v1 v2 : Byte), s.ppu.w = false →
  (∀ t, t = (memWrite (memWrite s 0x2005#16 v1) 0x2005#16 v2).ppu →
    t.t.toNat % 32 = v1.toNat / 8 ∧ t.x.toNat = v1.toNat % 8 ∧ t.t.toNat / 32 % 32 = v2.toNat / 8 ∧
    t.t.toNat / 4096 = v2.toNat % 8 ∧ t.t.toNat / 1024 % 4 = s.ppu.t.toNat / 1024 % 4 ∧ t.v = s.ppu.v ∧ t.w = false) ∧
  (∀ t, t = (memWrite (memWrite s 0x2006#16 v1) 0x2006#16 v2).ppu →
    t.t.toNat = v1.toNat % 64 * 256 + v2.toNat ∧ t.v = t.t ∧ t.w = false ∧ t.x = s.ppu.x) ∧
  (memWrite s 0x2005#16 v1).ppu.w = true ∧ (memWrite s 0x2006#16 v1).ppu.w = true ∧
  (memWrite s 0x2006#16 v1).ppu.v = s.ppu.v ∧
  (∀ t, t = (memWrite s 0x2000#16 v1).ppu →
    t.t.toNat / 1024 % 4 = v1.toNat % 4 ∧ t.t.toNat % 1024 = s.ppu.t.toNat % 1024 ∧
    t.t.toNat / 4096 = s.ppu.t.toNat / 4096 ∧ t.ctrl = ⟨s.ppu.ctrl.current, v1⟩)

/-- Register reads (61 R430-R433, R437; the spec marks details as from general knowledge and as its decisions D17, D30, D47). -/
def Obligations.PpuPortReads : Prop :=
  ∀ s : State, mirrorMode s.cart ≠ .four → ∀ q : PpuAddr, q.toNat = s.ppu.v.toNat % 0x4000 →
  (memRead s 0x2002#16).1 = s.ppu.status.current &&& 0xE0#8 ∧
  memRead s 0x2004#16 = (Memory.read s.ppu.oam s.ppu.oamAddr.toNat, s) ∧
  (∀ a ∈ [0x2000#16, 0x2001#16, 0x2003#16, 0x2005#16, 0x2006#16], memRead s a = (0#8, s)) ∧
  (q.toNat < 0x3F00 → memRead s 0x2007#16 = (s.ppu.readBuffer, s.setPpu { s.ppu with
    readBuffer := (ppuRead s q).1, v := s.ppu.v + (if s.ppu.ctrl.current.getLsbD 2 then 32#15 else 1#15) })) ∧
  (0x3F00 ≤ q.toNat → memRead s 0x2007#16 = ((ppuRead s q).1, s.setPpu { s.ppu with
    readBuffer := (ppuRead s (q - 0x1000#14)).1
    v := s.ppu.v + (if s.ppu.ctrl.current.getLsbD 2 then 32#15 else 1#15) }))

/-- The data write (61 R436); the increment is `vramInc` (61 R429). That the copy DataReg is staged beside it is R428 and 10 R48,
which rest on the spec's decision D4. -/
def Obligations.DataPortWrite : Prop :=
  ∀ (s : State) (a : Word) (v : Byte) (q : PpuAddr), 0x2000 ≤ a.toNat → a.toNat < 0x4000 → a.toNat % 8 = 7 →
    q.toNat = s.ppu.v.toNat % 0x4000 →
  memWrite s a v = (ppuWrite s q v).setPpu { s.ppu with
    v := BitVec.ofNat 15 ((s.ppu.v.toNat + (vramInc s.ppu).toNat) % 32768)
    dataReg := ⟨s.ppu.dataReg.current, v⟩ }

/-- IncrementCoarseX on numbers (61 R440). -/
def Obligations.CoarseXIncrement : Prop :=
  ∀ v : VAddr,
  (v.toNat % 32 = 31 → (incrementCoarseX v).toNat
    = if v.toNat / 1024 % 2 = 1 then v.toNat - 31 - 1024 else v.toNat - 31 + 1024) ∧
  (v.toNat % 32 ≠ 31 → (incrementCoarseX v).toNat = v.toNat + 1)

/-- The V updates (61 R441-R443), field by field. -/
def Obligations.VerticalScrollUpdates : Prop :=
  ∀ (v t : VAddr) (fineY coarseY nt : Nat), fineY = v.toNat / 4096 → coarseY = v.toNat / 32 % 32 →
    nt = v.toNat / 2048 % 2 →
  ((incrementY v).toNat % 32 = v.toNat % 32 ∧ (incrementY v).toNat / 1024 % 2 = v.toNat / 1024 % 2) ∧
  (incrementY v).toNat / 4096 = (fineY + 1) % 8 ∧
  (incrementY v).toNat / 32 % 32 = (if fineY < 7 then coarseY else if coarseY = 29 then 0 else (coarseY + 1) % 32) ∧
  (incrementY v).toNat / 2048 % 2 = (if fineY = 7 ∧ coarseY = 29 then 1 - nt else nt) ∧
  (∀ k < 15, (copyHorizontal v t).getLsbD k = if k < 5 ∨ k = 10 then t.getLsbD k else v.getLsbD k) ∧
  (∀ k < 15, (copyVertical v t).getLsbD k = if k < 5 ∨ k = 10 then v.getLsbD k else t.getLsbD k)

/-- The dot machine's position and status events (61 R421-R423, R425, R426, R466). -/
def Obligations.DotPositionAndStatus : Prop :=
  ∀ (j : Nat) (s : State),
  ((ppuDotAt j s).ppu.hCount, (ppuDotAt j s).ppu.vCount, (ppuDotAt j s).ppu.isEvenFrame)
    = nextPosition (s.ppu.mask.current.getLsbD 3 || s.ppu.mask.current.getLsbD 4) s.ppu ∧
  (s.ppu.vCount = 241 ∧ s.ppu.hCount = 1 → (ppuDotAt j s).ppu.status.new = s.ppu.status.new ||| 0x80#8) ∧
  (s.ppu.vCount = 261 ∧ s.ppu.hCount = 1 → (ppuDotAt j s).ppu.status.new = s.ppu.status.new &&& 0x1F#8) ∧
  (¬ ((s.ppu.vCount = 241 ∨ s.ppu.vCount = 261) ∧ s.ppu.hCount = 1) →
    (ppuDotAt j s).ppu.status.new = s.ppu.status.new ∨ (ppuDotAt j s).ppu.status.new = s.ppu.status.new ||| 0x40#8)

/-- The overflow flag (61 R466). -/
def Obligations.OverflowFlagNeverSet : Prop :=
  (∀ s t : State, s.ppu.status.current.getLsbD 5 = false → s.ppu.status.new.getLsbD 5 = false → step s = .next t →
    t.ppu.status.current.getLsbD 5 = false ∧ t.ppu.status.new.getLsbD 5 = false) ∧
  State.reset.ppu.status.current.getLsbD 5 = false ∧ State.reset.ppu.status.new.getLsbD 5 = false

/-- Horizontal flip (61 R463), for both pattern bytes of a slot. -/
def Obligations.HorizontalFlip : Prop :=
  ∀ (s : State) (i k : Nat), i < s.ppu.sprCount → i < s.ppu.sprites.length → k < 8 → ∀ lo hi : Byte,
    lo = (ppuRead s (spritePatternAddr s.params.spriteSize s.ppu i)).1 →
    hi = (ppuRead s (spritePatternAddr s.params.spriteSize s.ppu i + 8#14)).1 →
  (spriteSlot (spriteFetchLo s i).ppu i).patLo.getLsbD k
    = (if (spriteSlot s.ppu i).attr.getLsbD 6 then lo.getLsbD (7 - k) else lo.getLsbD k) ∧
  (spriteSlot (spriteFetchHi s i).ppu i).patHi.getLsbD k
    = (if (spriteSlot s.ppu i).attr.getLsbD 6 then hi.getLsbD (7 - k) else hi.getLsbD k)

/-- Pixel 0 (61 R472). -/
def Obligations.PixelZeroIsUniversalBackground : Prop :=
  ∀ (bg : BitVec 2 × BitVec 2) (spr : Option SprPixel), (muxPixel bg spr).1 = 0#2 →
  (muxPixel bg spr).2 = 0#3 ∧ pixelAddr (muxPixel bg spr) = 0x3F00#14

/-- Compositing and pixel output (61 R452, R468-R473, R478, R479). The dots of the hit are the spec's decision D27, the clips D28,
the mask at lookup D32, the backdrop D23; palette offset and attribute bits are marked by it as from general knowledge. The
emitted pixel standing in the field `out` is the model's choice (log 6). -/
def Obligations.CompositedPixel : Prop :=
  (∀ (j : Nat) (s u : State) (x : Nat), u = s.atCompositing j → x = s.ppu.hCount - 1 →
    (ppuDotAt j s).out.ioWrites = s.out.ioWrites ∧
    (ppuDotAt j s).out.pixels = s.out.pixels ++
      (if s.ppu.vCount ≤ 239 ∧ 1 ≤ s.ppu.hCount ∧ s.ppu.hCount ≤ 256 then
        [⟨x, s.ppu.vCount,
          ((ppuRead u (pixelAddr (muxPixel (bgPixel u.ppu x) (spritePixel u.ppu x)))).1 &&& 0x3F#8).setWidth 6⟩] else []) ∧
    (s.ppu.mask.current.getLsbD 3 = false → s.ppu.mask.current.getLsbD 4 = false →
      muxPixel (bgPixel u.ppu x) (spritePixel u.ppu x) = (0#2, 0#3))) ∧
  (∀ (s : State) (x : Nat), x = s.ppu.hCount - 1 →
    (compositeDot s).out.pixels = s.out.pixels ++ [⟨x, s.ppu.vCount,
      ((ppuRead s (pixelAddr (muxPixel (bgPixel s.ppu x) (spritePixel s.ppu x)))).1 &&& 0x3F#8).setWidth 6⟩]) ∧
  (∀ (p : Ppu) (x b : Nat), b = 15 - p.x.toNat →
    ((bgPixel p x).1.toNat, (bgPixel p x).2.toNat) =
      if p.mask.current.getLsbD 3 = true ∧ (8 ≤ x ∨ p.mask.current.getLsbD 1 = true) then
        (2 * (p.bgPatHi.getLsbD b).toNat + (p.bgPatLo.getLsbD b).toNat,
          2 * (p.bgAttHi.getLsbD b).toNat + (p.bgAttLo.getLsbD b).toNat)
      else (0, 0)) ∧
  (∀ (p : Ppu) (x : Nat) (opaqueAt : Nat → Prop), p.sprCount ≤ p.sprites.length →
      (∀ i, opaqueAt i ↔ (spriteSlot p i).x = 0#8 ∧
        ((spriteSlot p i).patHi.getLsbD 7 = true ∨ (spriteSlot p i).patLo.getLsbD 7 = true)) →
    (¬ (p.mask.current.getLsbD 4 = true ∧ (8 ≤ x ∨ p.mask.current.getLsbD 2 = true)) ∨
        (∀ i < p.sprCount, ¬ opaqueAt i) → spritePixel p x = none) ∧
    (p.mask.current.getLsbD 4 = true → 8 ≤ x ∨ p.mask.current.getLsbD 2 = true → ∀ i < p.sprCount, opaqueAt i →
        (∀ k < i, ¬ opaqueAt k) → ∃ sp, spritePixel p x = some sp ∧ sp.slot = i ∧
      sp.pix.toNat = 2 * ((spriteSlot p i).patHi.getLsbD 7).toNat + ((spriteSlot p i).patLo.getLsbD 7).toNat ∧
      sp.pal.toNat = 4 + (spriteSlot p i).attr.toNat % 4 ∧ sp.behind = (spriteSlot p i).attr.getLsbD 5)) ∧
  (∀ (bg : BitVec 2 × BitVec 2) (sp : SprPixel), sp.pix ≠ 0#2 → muxPixel bg none =
      (if bg.1 = 0#2 then (0#2, 0#3) else (bg.1, bg.2.setWidth 3)) ∧
    muxPixel bg (some sp) = if bg.1 = 0#2 ∨ sp.behind = false then (sp.pix, sp.pal) else (bg.1, bg.2.setWidth 3)) ∧
  (∀ (s : State) (hit : Bool),
    (hit = true ↔ s.ppu.spr0InLine = true ∧ (∃ sp, spritePixel s.ppu (s.ppu.hCount - 1) = some sp ∧ sp.slot = 0) ∧
      (bgPixel s.ppu (s.ppu.hCount - 1)).1 ≠ 0#2 ∧ s.ppu.mask.current.getLsbD 3 = true ∧
      s.ppu.mask.current.getLsbD 4 = true ∧ 2 ≤ s.ppu.hCount ∧ s.ppu.hCount < 257 ∧ s.ppu.hCount ≠ 255) →
    (compositeDot s).ppu = s.ppu ∧ hit = false ∨
    (compositeDot s).ppu = { s.ppu with status := ⟨s.ppu.status.current, s.ppu.status.new ||| 0x40#8⟩ } ∧ hit = true) ∧
  (∀ (j : Nat) (s u : State) (hit : Bool), u = s.atCompositing j →
      (hit = true ↔ s.ppu.vCount ≤ 239 ∧ 2 ≤ s.ppu.hCount ∧ s.ppu.hCount < 257 ∧ s.ppu.hCount ≠ 255 ∧
        u.ppu.spr0InLine = true ∧ (∃ sp, spritePixel u.ppu (s.ppu.hCount - 1) = some sp ∧ sp.slot = 0) ∧
        (bgPixel u.ppu (s.ppu.hCount - 1)).1 ≠ 0#2 ∧ s.ppu.mask.current.getLsbD 3 = true ∧
        s.ppu.mask.current.getLsbD 4 = true) →
    (ppuDotAt j s).ppu.status.new.getLsbD 6 =
      (hit || (s.ppu.status.new.getLsbD 6 && decide (¬ (s.ppu.vCount = 261 ∧ s.ppu.hCount = 1)))))

/-- What rendering leaves alone (61 R424, R444, R464, R467, R474, R475, R477, R479). That OamAddr is not changed is the spec's
decision D47 (R477), that the pipelines and V rest with rendering off its decision D23 (R424, R479). -/
def Obligations.RenderingFrame : Prop :=
  ∀ (j : Nat) (s t : State) (idle : Prop), t = ppuDotAt j s → (idle ↔ 240 ≤ s.ppu.vCount ∧ s.ppu.vCount ≤ 260) →
  t.cpu = s.cpu ∧ t.cart = s.cart ∧ t.params = s.params ∧ t.bus = { s.bus with nmiLine := t.bus.nmiLine } ∧
  t.ppu.oam = s.ppu.oam ∧ t.ppu.t = s.ppu.t ∧ t.ppu.x = s.ppu.x ∧ t.ppu.w = s.ppu.w ∧
  t.ppu.readBuffer = s.ppu.readBuffer ∧ t.ppu.oamAddr = s.ppu.oamAddr ∧
  ((s.ppu.mask.current.getLsbD 3 = false ∧ s.ppu.mask.current.getLsbD 4 = false) ∨ idle →
    t.ppu.v = s.ppu.v ∧ t.ppu.bgPatLo = s.ppu.bgPatLo ∧ t.ppu.bgPatHi = s.ppu.bgPatHi ∧
    t.ppu.bgAttLo = s.ppu.bgAttLo ∧ t.ppu.bgAttHi = s.ppu.bgAttHi ∧ t.ppu.nextTileId = s.ppu.nextTileId ∧
    t.ppu.nextTileAttr = s.ppu.nextTileAttr ∧ t.ppu.nextTileLo = s.ppu.nextTileLo ∧ t.ppu.nextTileHi = s.ppu.nextTileHi ∧
    t.ppu.sprites = s.ppu.sprites) ∧
  (idle → t.ppu.sprCount = s.ppu.sprCount ∧ t.ppu.spr0InLine = s.ppu.spr0InLine)

/-- What reset leaves (10 R37, R38, R43, 70 R500-R504; the split into seven latches is the spec's decision D6, the counters D8, the
PPU values D37). A, X and Y are not stated. The PC is the vector's value on the cartridge of log 1; that MMC1's shift register
has its power-on value on that NROM cartridge is the model's choice (log 21). -/
def Obligations.ResetValues : Prop :=
  State.reset.cpu.s = 0xFD#8 ∧ State.reset.cpu.p = 0x24#8 ∧ State.reset.cpu.cyclesLeft = 7#8 ∧
  State.reset.cpu.totalCycles = 0#64 ∧ State.reset.cpu.instrCount = 0#64 ∧ State.reset.cpu.isKilled = false ∧
  State.reset.cpu.phase = .rise ∧ State.reset.cpu.nmiPending = false ∧ State.reset.cpu.nmiDue = false ∧
  State.reset.cpu.irqDue = false ∧ State.reset.cpu.nmiLinePrev = false ∧ State.reset.cpu.nmiEdgeDelay = false ∧
  State.reset.cpu.irqLevelDelay = false ∧ State.reset.cpu.irqAsserted = false ∧
  State.reset.cpu.pc = peek16 State.reset 0xFFFC#16 ∧
  State.reset.ppu.ctrl = ⟨0#8, 0#8⟩ ∧ State.reset.ppu.mask = ⟨0#8, 0#8⟩ ∧ State.reset.ppu.status = ⟨0#8, 0#8⟩ ∧
  State.reset.ppu.v = 0#15 ∧ State.reset.ppu.t = 0#15 ∧ State.reset.ppu.x = 0#3 ∧ State.reset.ppu.w = false ∧
  State.reset.ppu.readBuffer = 0#8 ∧ State.reset.ppu.oamAddr = 0#8 ∧ State.reset.ppu.hCount = 0 ∧
  State.reset.ppu.vCount = 261 ∧ State.reset.ppu.isEvenFrame = true ∧ State.reset.bus.dmaState = .idle ∧
  State.reset.bus.busCycle = 0#64 ∧ State.reset.cart.shift = 0x10#5

/-- The reset operation on any state (70 R500-R502, R504, R508, R509). -/
def Obligations.SystemResetEffect : Prop :=
  ∀ s : State,
  s.systemReset.refusal = s.refusal ∧ s.systemReset.cart = s.cart ∧ s.systemReset.params = s.params ∧
  s.systemReset.bus = { s.bus with
    dmaState := .idle, dmaBase := 0#16, dmaCount := 0, dmaData := 0#8, dmaReadPhase := true, nmiLine := false } ∧
  s.systemReset.cpu = Cpu.afterReset s.cpu.a s.cpu.x s.cpu.y (peek16 s 0xFFFC#16) ∧
  s.systemReset.cpu.s = 0xFD#8 ∧ s.systemReset.cpu.p = 0x24#8 ∧ s.systemReset.cpu.cyclesLeft = 7#8 ∧
  s.systemReset.cpu.isKilled = false ∧ s.systemReset.cpu.totalCycles = 0#64 ∧
  s.systemReset.ppu = Ppu.afterReset ⟨s.ppu.status.current &&& 0xE0#8, s.ppu.status.new &&& 0xE0#8⟩ s.ppu.v s.ppu.oam

/-- Launch (21 R150, 70 R503, 10 R61, R62; PRG_BANKS = 0 is the spec's decision D43, Control at power-on D34, the open contents D9
and D10). That contents are given as lists of bytes, and what an unlisted byte reads as, is the model's choice (logs 3, 13). -/
def Obligations.PowerOnOutcomes : Prop :=
  ∀ (c : Cartridge) (prm : Params) (v : PowerOnValues),
  (c.mapperId ≠ 0 ∧ c.mapperId ≠ 1 → State.powerOn c prm v = .refused .unsupportedMapper) ∧
  ((c.mapperId = 0 ∨ c.mapperId = 1) ∧ c.prgBanks = 0 → State.powerOn c prm v = .refused .noPrgBanks) ∧
  ((c.mapperId = 0 ∨ c.mapperId = 1) ∧ 1 ≤ c.prgBanks → ∃ t, State.powerOn c prm v = .next t ∧ t.refusal = none ∧
    t.cpu.a = v.a ∧ t.cpu.x = v.x ∧ t.cpu.y = v.y ∧ t.cpu.s = 0xFD#8 ∧ t.cpu.p = 0x24#8 ∧
    t.cpu.pc = peek16 t 0xFFFC#16 ∧ t.bus.busCycle = 0#64 ∧ t.params = prm ∧
    t.bus.ram = Memory.ofCells v.ram ∧ t.bus.vram = Memory.ofCells v.vram ∧
    t.bus.palette = Memory.ofCells v.palette ∧ t.bus.pattern = Memory.ofCells v.pattern ∧
    t.ppu.oam = Memory.ofCells v.oam ∧ t.cart.prgRam = Memory.ofCells v.prgRam ∧ t.cart.rom = Memory.ofCells c.rom ∧
    (∀ m ∈ [t.bus.ram, t.bus.vram, t.bus.palette, t.bus.pattern, t.ppu.oam, t.cart.prgRam, t.cart.rom],
      Memory.wf m) ∧
    t.cart.mapper = (if c.mapperId = 0 then .nrom else .mmc1) ∧ t.cart.prgBanks = c.prgBanks ∧
    t.cart.chrBanks = c.chrBanks ∧ t.cart.mirror = c.mirror ∧ t.cart.battery = c.battery ∧
    t.cart.shift = 0x10#5 ∧ t.cart.control = (if c.mirror = .vertical then 0x0E#5 else 0x0F#5) ∧
    t.cart.chrBank0 = 0#5 ∧ t.cart.chrBank1 = 0#5 ∧ t.cart.prgBank = 0#5) ∧
  (∀ (cells : List Host.Cell) (i : Nat), Memory.read (Memory.ofCells cells) i =
    ((cells.reverse.find? fun cell => cell.1 = i).map Prod.snd).getD Config.unlistedByte)

/-- The invariant of StepKeepsInvariant holds at reset. Its cartridge and store clauses hold of the blank cartridge and the empty stores this model resets to (the model's choices, logs 1 and 3); its other clauses rest on the reset values the spec gives. -/
def Obligations.ResetMeetsInvariant : Prop :=
  State.reset.Inv

/-- One invariant over the whole machine (10 R39, R46, R52, R54-R57, R59, R61, R62; 20 R115, R120; 21 R170; 30 R196). -/
def Obligations.StepKeepsInvariant : Prop :=
  ∀ s t : State, s.Inv → step s = .next t → t.Inv

/-- What a run cannot change (00 R8, 21 R164, 70 R520, R524). IRQ_LINE is plain data in the parameters (log 4). -/
def Obligations.StepKeepsCartridge : Prop :=
  ∀ s t : State, step s = .next t →
  t.cart.rom = s.cart.rom ∧ t.cart.mapper = s.cart.mapper ∧ t.cart.prgBanks = s.cart.prgBanks ∧
  t.cart.chrBanks = s.cart.chrBanks ∧ t.cart.mirror = s.cart.mirror ∧ t.cart.battery = s.cart.battery ∧
  t.params = s.params ∧ t.bus.busCycle = s.bus.busCycle + 1#64 ∧
  t.bus.irqLine = irqLevel s.params s.bus.busCycle

/-- Progress of the whole machine (60 R380, R393; FOUR is the one refusal, 20 R114). -/
def Obligations.EveryStepAnswers : Prop :=
  ∀ s : State, s.Ready → (∃ t, step s = .next t ∧ t.Ready) ∧ ∀ n, ∃ t, runSteps n s = .next t ∧ t.Ready

/-- The CHR map and the mirroring (21 R162-R164, R171, R173-R175, 20 R110). NROM's pattern RAM without CHR is the spec's decision
D33, MMC1's mirroring values and CHR RAM its decision D35, the remainder by the size its decision D36, the single pages D31;
the CHR modes are marked by it as from general knowledge. -/
def Obligations.ChrMappingAndMirroring : Prop :=
  (∀ (s : State) (q : PpuAddr) (v : Byte), q.toNat < 0x2000 →
    (s.cart.chrBanks = 0 → ppuRead s q = (Memory.read s.bus.pattern q.toNat, s) ∧
      ppuWrite s q v = s.setBus { s.bus with pattern := Memory.write s.bus.pattern q.toNat v }) ∧
    (0 < s.cart.chrBanks → ppuWrite s q v = s ∧
      (s.cart.mapper = .nrom → ppuRead s q = (Memory.read s.cart.rom (s.cart.prgBanks * 16384 + q.toNat), s)) ∧
      (s.cart.mapper = .mmc1 → ppuRead s q = (Memory.read s.cart.rom (s.cart.prgBanks * 16384 + (
        if s.cart.control.toNat / 16 = 0 then s.cart.chrBank0.toNat / 2 * 2 * 4096 + q.toNat
        else if q.toNat < 0x1000 then s.cart.chrBank0.toNat * 4096 + q.toNat
        else s.cart.chrBank1.toNat * 4096 + (q.toNat - 0x1000)) % (s.cart.chrBanks * 8192)), s)))) ∧
  (∀ c : Cart,
    (c.mapper = .nrom → mirrorMode c =
      match c.mirror with | .horizontal => .horizontal | .vertical => .vertical | .four => .four) ∧
    (c.mapper = .mmc1 → mirrorMode c =
      if c.control.toNat % 4 = 0 then .single 0 else if c.control.toNat % 4 = 1 then .single 1
      else if c.control.toNat % 4 = 2 then .vertical else .horizontal))

/-- The pipelines in numbers: the background (61 R444-R451), the sprite evaluation (R453-R459), the sprite line (R460, R461, R464,
R467) and the sprite pattern address (R462). The V updates themselves are CoarseXIncrement and VerticalScrollUpdates,
horizontal flip is HorizontalFlip, the pixels are CompositedPixel. The dots and steps are the spec's decisions D22, D24, D25
and D26, the address formulae marked by it as from general knowledge; a row outside the height is log 12 and is not stated.
Eight slots is part of `State.Inv`. -/
def Obligations.RenderingPipelines : Prop :=
  (∀ (j : Nat) (s : State) (p t : Ppu), p = s.ppu → t = (ppuDotAt j s).ppu → mirrorMode s.cart ≠ .four →
      showsAny p = true → (p.vCount ≤ 239 ∨ p.vCount = 261) →
    t.bgPatLo.toNat = bgRegisterAfter p.hCount p.bgPatLo p.nextTileLo ∧
    t.bgPatHi.toNat = bgRegisterAfter p.hCount p.bgPatHi p.nextTileHi ∧
    t.bgAttLo.toNat = bgRegisterAfter p.hCount p.bgAttLo (if p.nextTileAttr.getLsbD 0 then 0xFF#8 else 0x00#8) ∧
    t.bgAttHi.toNat = bgRegisterAfter p.hCount p.bgAttHi (if p.nextTileAttr.getLsbD 1 then 0xFF#8 else 0x00#8) ∧
    (∀ q : PpuAddr, q.toNat = 0x2000 + p.v.toNat % 0x1000 →
      t.nextTileId = if fetchPhase p.hCount 0 then (ppuRead s q).1 else p.nextTileId) ∧
    (∀ q : PpuAddr,
      q.toNat = 0x23C0 + p.v.toNat / 1024 % 4 * 1024 + p.v.toNat / 128 % 8 * 8 + p.v.toNat / 4 % 8 →
      t.nextTileAttr.toNat = if fetchPhase p.hCount 2 then
          (ppuRead s q).1.toNat / (if p.v.getLsbD 6 then 16 else 1) / (if p.v.getLsbD 1 then 4 else 1) % 4
        else p.nextTileAttr.toNat) ∧
    (∀ q : PpuAddr,
      q.toNat = (if p.ctrl.current.getLsbD 4 then 0x1000 else 0) + p.nextTileId.toNat * 16 + p.v.toNat / 4096 →
      t.nextTileLo = (if fetchPhase p.hCount 4 then (ppuRead s q).1 else p.nextTileLo) ∧
      t.nextTileHi = (if fetchPhase p.hCount 6 then (ppuRead s (q + 8#14)).1 else p.nextTileHi)) ∧
    t.v = (if p.hCount = 256 then incrementY (incrementCoarseX p.v)
      else if fetchPhase p.hCount 7 then incrementCoarseX p.v
      else if p.hCount = 257 then copyHorizontal p.v p.t
      else if p.vCount = 261 ∧ 280 ≤ p.hCount ∧ p.hCount ≤ 304 then copyVertical p.v p.t
      else p.v)) ∧
  (∀ (j : Nat) (s : State) (h : Nat) (e t : Evaluation), h = s.ppu.hCount → e = s.ppu.evaluation →
      t = (ppuDotAt j s).ppu.evaluation →
    (240 ≤ s.ppu.vCount ∨ h = 0 ∨ 257 ≤ h ∨ (showsAny s.ppu = false ∧ h ≠ 1) → t = e) ∧
    (s.ppu.vCount ≤ 239 → h = 1 → t = { e with found := 0, spr0 := false, state := .done }) ∧
    (s.ppu.vCount ≤ 239 → showsAny s.ppu = true → 2 ≤ h → h ≤ 256 →
      (h ≤ 64 → t = if h % 2 = 0 then { e with secOam := e.secOam.set (h / 2 - 1) 0xFF#8 } else e) ∧
      (h = 65 → t = { e with n := 0, m := 0, state := .newSprite, latch := Memory.read s.ppu.oam 0 }) ∧
      (67 ≤ h → h % 2 = 1 → t = if e.state = .newSprite ∨ e.state = .copySprite then
        { e with latch := Memory.read s.ppu.oam (4 * e.n + e.m) } else e) ∧
      (66 ≤ h → h % 2 = 0 →
        (e.state = .newSprite → t =
          if e.latch.toNat ≤ s.ppu.vCount ∧ s.ppu.vCount < e.latch.toNat + spriteLinesOf s then
            { e with
              secOam := e.secOam.set (4 * e.found) e.latch
              spr0 := e.spr0 || decide (e.n = 0), m := 1, state := .copySprite }
          else
            { e with
              secOam := e.secOam.set (4 * e.found) e.latch
              n := e.n + 1, state := if e.n = 63 then .done else .newSprite }) ∧
        (e.state = .copySprite → t =
          if e.m = 3 then
            { e with
              secOam := e.secOam.set (4 * e.found + 3) e.latch
              m := 0, found := e.found + 1, n := e.n + 1
              state := if e.n = 63 then .done else if e.found = 7 then .overflow else .newSprite }
          else { e with secOam := e.secOam.set (4 * e.found + e.m) e.latch, m := e.m + 1 }) ∧
        (e.state = .overflow → t = { e with n := e.n + 1, state := if e.n = 63 then .done else .overflow }) ∧
        (e.state = .done → t = e)))) ∧
  (∀ (j : Nat) (s : State) (h : Nat) (p t : Ppu), h = s.ppu.hCount → p = s.ppu → t = (ppuDotAt j s).ppu →
      mirrorMode s.cart ≠ .four → p.sprites.length = 8 →
    (if h = 257 ∧ (p.vCount ≤ 239 ∨ p.vCount = 261) then
      (t.sprCount, t.spr0InLine)
        = (if p.vCount ≤ 239 ∧ showsAny p = true then (p.evalFound, p.spr0Next) else (0, false))
    else (t.sprCount, t.spr0InLine) = (p.sprCount, p.spr0InLine)) ∧
    (p.vCount ≤ 239 ∧ showsAny p = true ∧ 2 ≤ h ∧ h ≤ 257 → ∀ i < 8, spriteSlot t i =
      if p.sprCount ≤ i then spriteSlot p i
      else if (spriteSlot p i).x = 0#8 then
        { spriteSlot p i with
          patLo := BitVec.ofNat 8 (2 * (spriteSlot p i).patLo.toNat)
          patHi := BitVec.ofNat 8 (2 * (spriteSlot p i).patHi.toNat) }
      else { spriteSlot p i with x := (spriteSlot p i).x - 1#8 }) ∧
    (p.vCount ≤ 239 ∧ showsAny p = true ∧ 258 ≤ h ∧ h ≤ 320 → ∀ i < 8, ∀ q : PpuAddr,
        q = spritePatternAddr s.params.spriteSize p i → spriteSlot t i =
      if i ≠ (h - 257) / 8 then spriteSlot p i
      else if (h - 257) % 8 = 2 then
        { spriteSlot p i with attr := secOamByte p (4 * i + 2), x := secOamByte p (4 * i + 3) }
      else if (h - 257) % 8 = 4 then
        { spriteSlot p i with
          patLo := if i < p.sprCount then flipped (spriteSlot p i).attr (ppuRead s q).1 else 0x00#8 }
      else if (h - 257) % 8 = 6 then
        { spriteSlot p i with
          patHi := if i < p.sprCount then flipped (spriteSlot p i).attr (ppuRead s (q + 8#14)).1 else 0x00#8 }
      else spriteSlot p i) ∧
    (240 ≤ p.vCount ∨ showsAny p = false ∨ h ≤ 1 ∨ 321 ≤ h → t.sprites = p.sprites)) ∧
  (∀ (m : SpriteSizeMode) (s : State) (i y tile row r : Nat), m = s.params.spriteSize →
      y = (secOamByte s.ppu (4 * i)).toNat → tile = (secOamByte s.ppu (4 * i + 1)).toNat →
      s.ppu.vCount ≤ 261 → s.ppu.vCount = y + row → row < spriteLinesOf s →
      r = (if (spriteSlot s.ppu i).attr.getLsbD 7 then spriteLinesOf s - 1 - row else row) →
    (spritePatternAddr m s.ppu i).toNat =
      if spriteLinesOf s = 8 then (if s.ppu.ctrl.current.getLsbD 3 then 0x1000 else 0) + tile * 16 + r
      else tile % 2 * 0x1000 + (tile / 2 * 2 + r / 8) * 16 + r % 8)
end

