-- ==== Sys2Proof/Laws/Memory.lean ====
section
/-! SUPPORT. The laws of byte stores: read after write, and that every operation keeps the canonical form. -/

namespace Sys2Proof.Machine

theorem Memory.read_insert (m : Memory) (i j : Nat) (v : Byte) :
    Memory.read (Memory.insert m i v) j = if i = j then v else Memory.read m j := by
  induction m with
  | nil => by_cases h : i = j <;> simp [Memory.insert, Memory.read, h]
  | cons c rest ih =>
    obtain ⟨k, u⟩ := c
    rw [Memory.insert]
    split
    · by_cases h : i = j <;> simp [Memory.read, h]
    · split
      · subst ‹i = k›; by_cases h : i = j <;> simp [Memory.read, h]
      · by_cases h : k = j
        · have : i ≠ j := by omega
          simp [Memory.read, h, this]
        · simp [Memory.read, h, ih]

/-- What is not listed reads as the unlisted byte. -/
theorem Memory.read_of_not_listed (m : Memory) (i : Nat) (h : ∀ c ∈ m, c.1 ≠ i) :
    Memory.read m i = Config.unlistedByte := by
  induction m with
  | nil => rfl
  | cons c rest ih =>
    rw [Memory.read, if_neg (h c (by simp)), ih fun d hd => h d (by simp [hd])]

theorem Memory.mem_erase {m : Memory} {i : Nat} {c : Host.Cell} (h : c ∈ Memory.erase m i) : c ∈ m := by
  induction m with
  | nil => exact h
  | cons d rest ih =>
    rw [Memory.erase] at h
    split at h
    · exact List.mem_cons_of_mem _ h
    · rcases List.mem_cons.mp h with rfl | h
      · simp
      · exact List.mem_cons_of_mem _ (ih h)

theorem Memory.mem_insert {m : Memory} {i : Nat} {v : Byte} {c : Host.Cell} (h : c ∈ Memory.insert m i v) :
    c = (i, v) ∨ c ∈ m := by
  induction m with
  | nil => simpa [Memory.insert] using h
  | cons d rest ih =>
    rw [Memory.insert] at h
    split at h
    · simpa using h
    · split at h
      · rcases List.mem_cons.mp h with h | h
        · exact .inl h
        · exact .inr (List.mem_cons_of_mem _ h)
      · rcases List.mem_cons.mp h with rfl | h
        · exact .inr (by simp)
        · rcases ih h with h | h
          · exact .inl h
          · exact .inr (List.mem_cons_of_mem _ h)

theorem Memory.read_erase (m : Memory) (i j : Nat) (h : Memory.wf m) :
    Memory.read (Memory.erase m i) j = if i = j then Config.unlistedByte else Memory.read m j := by
  induction m with
  | nil => simp [Memory.erase, Memory.read]
  | cons c rest ih =>
    obtain ⟨k, u⟩ := c
    obtain ⟨hp, hv⟩ := h
    obtain ⟨hk, hp⟩ := List.pairwise_cons.mp hp
    have ih := ih ⟨hp, fun c hc => hv c (List.mem_cons_of_mem _ hc)⟩
    rw [Memory.erase]
    by_cases hki : k = i
    · subst hki
      by_cases hij : k = j
      · subst hij
        simpa using Memory.read_of_not_listed rest k fun c hc => by have := hk c hc; simp at this; omega
      · simp [Memory.read, hij]
    · by_cases hkj : k = j
      · have : i ≠ j := by omega
        rw [if_neg hki]; simp [Memory.read, hkj, this]
      · rw [if_neg hki]; simp [Memory.read, hkj, ih]

/-- Read after write, on a store in canonical form. -/
theorem Memory.read_write (m : Memory) (i j : Nat) (v : Byte) (h : Memory.wf m) :
    Memory.read (Memory.write m i v) j = if i = j then v else Memory.read m j := by
  rw [Memory.write]
  split
  · simp [Memory.read_erase m i j h, *]
  · exact Memory.read_insert m i j v

theorem Memory.erase_wf {m : Memory} (i : Nat) (h : Memory.wf m) : Memory.wf (Memory.erase m i) := by
  refine ⟨?_, fun c hc => h.2 c (Memory.mem_erase hc)⟩
  have hp := h.1
  clear h
  induction m with
  | nil => exact hp
  | cons d rest ih =>
    obtain ⟨hd, hp⟩ := List.pairwise_cons.mp hp
    rw [Memory.erase]
    split
    · exact hp
    · exact List.pairwise_cons.mpr ⟨fun c hc => hd c (Memory.mem_erase hc), ih hp⟩

theorem Memory.insert_wf {m : Memory} (i : Nat) {v : Byte} (hv : v ≠ Config.unlistedByte) (h : Memory.wf m) :
    Memory.wf (Memory.insert m i v) := by
  refine ⟨?_, fun c hc => ?_⟩
  · have hp := h.1
    clear h
    induction m with
    | nil => simp [Memory.insert]
    | cons d rest ih =>
      obtain ⟨k, u⟩ := d
      obtain ⟨hd, hp'⟩ := List.pairwise_cons.mp hp
      rw [Memory.insert]
      split
      · refine List.pairwise_cons.mpr ⟨fun c hc => ?_, hp⟩
        rcases List.mem_cons.mp hc with rfl | hc
        · assumption
        · have := hd c hc; simp at this ⊢; omega
      · split
        · subst ‹i = k›; exact List.pairwise_cons.mpr ⟨hd, hp'⟩
        · refine List.pairwise_cons.mpr ⟨fun c hc => ?_, ih hp'⟩
          rcases Memory.mem_insert hc with rfl | hc
          · simp; omega
          · exact hd c hc
  · rcases Memory.mem_insert hc with rfl | hc
    · exact hv
    · exact h.2 c hc

/-- A write keeps the canonical form. -/
theorem Memory.write_wf {m : Memory} (i : Nat) (v : Byte) (h : Memory.wf m) : Memory.wf (Memory.write m i v) := by
  rw [Memory.write]
  split
  · exact Memory.erase_wf i h
  · exact Memory.insert_wf i ‹_› h

/-- A write below the size keeps the listed indices below it. -/
theorem Memory.write_within {m : Memory} {n i : Nat} (v : Byte) (hi : i < n) (h : Memory.within m n) :
    Memory.within (Memory.write m i v) n := by
  intro c hc
  rw [Memory.write] at hc
  split at hc
  · exact h c (Memory.mem_erase hc)
  · rcases Memory.mem_insert hc with rfl | hc
    · exact hi
    · exact h c hc

/-- The indices a write lists: those listed before, and the written one. -/
theorem Memory.mem_write {m : Memory} {i : Nat} {v : Byte} {c : Host.Cell} (h : c ∈ Memory.write m i v) :
    c = (i, v) ∨ c ∈ m := by
  rw [Memory.write] at h
  split at h
  · exact .inr (Memory.mem_erase h)
  · exact Memory.mem_insert h

theorem Memory.nil_wf : Memory.wf [] := ⟨.nil, by simp⟩

/-- A store built from a list of cells is in canonical form. -/
theorem Memory.ofCells_wf (cells : List Host.Cell) : Memory.wf (Memory.ofCells cells) := by
  suffices ∀ m : Memory, Memory.wf m → Memory.wf (cells.foldl (fun m c => Memory.write m c.1 c.2) m) from
    this [] Memory.nil_wf
  induction cells with
  | nil => exact fun m h => h
  | cons c rest ih => exact fun m h => ih _ (Memory.write_wf _ _ h)

theorem Clocked.clock_clock (r : Clocked) : r.clock.clock = r.clock := rfl

@[simp] theorem Clocked.write_current (r : Clocked) (v : Byte) : (r.write v).current = r.current := rfl

@[simp] theorem Clocked.write_new (r : Clocked) (v : Byte) : (r.write v).new = v := rfl

@[simp] theorem Clocked.clear_current (r : Clocked) (b : Nat) : (r.clear b).current = r.current := rfl

@[simp] theorem Clocked.set_current (r : Clocked) (b : Nat) : (r.set b).current = r.current := rfl

@[simp] theorem Clocked.clock_current (r : Clocked) : r.clock.current = r.new := rfl

@[simp] theorem Clocked.clock_new (r : Clocked) : r.clock.new = r.new := rfl

end Sys2Proof.Machine
end

