-- ==== Sys2Proof/Laws/State.lean ====
section
/-! SUPPORT. What each update of the state leaves in each field: one lemma per field per update, true by `rfl`. -/

namespace Sys2Proof.Machine

@[simp] theorem State.setCpu_cpu (s : State) (c : Cpu) : (s.setCpu c).cpu = c := rfl
@[simp] theorem State.setCpu_ppu (s : State) (c : Cpu) : (s.setCpu c).ppu = s.ppu := rfl
@[simp] theorem State.setCpu_bus (s : State) (c : Cpu) : (s.setCpu c).bus = s.bus := rfl
@[simp] theorem State.setCpu_cart (s : State) (c : Cpu) : (s.setCpu c).cart = s.cart := rfl
@[simp] theorem State.setCpu_params (s : State) (c : Cpu) : (s.setCpu c).params = s.params := rfl
@[simp] theorem State.setCpu_out (s : State) (c : Cpu) : (s.setCpu c).out = s.out := rfl
@[simp] theorem State.setCpu_refusal (s : State) (c : Cpu) : (s.setCpu c).refusal = s.refusal := rfl

@[simp] theorem State.setPpu_cpu (s : State) (p : Ppu) : (s.setPpu p).cpu = s.cpu := rfl
@[simp] theorem State.setPpu_ppu (s : State) (p : Ppu) : (s.setPpu p).ppu = p := rfl
@[simp] theorem State.setPpu_bus (s : State) (p : Ppu) : (s.setPpu p).bus = s.bus := rfl
@[simp] theorem State.setPpu_cart (s : State) (p : Ppu) : (s.setPpu p).cart = s.cart := rfl
@[simp] theorem State.setPpu_params (s : State) (p : Ppu) : (s.setPpu p).params = s.params := rfl
@[simp] theorem State.setPpu_out (s : State) (p : Ppu) : (s.setPpu p).out = s.out := rfl
@[simp] theorem State.setPpu_refusal (s : State) (p : Ppu) : (s.setPpu p).refusal = s.refusal := rfl

@[simp] theorem State.setBus_cpu (s : State) (b : Bus) : (s.setBus b).cpu = s.cpu := rfl
@[simp] theorem State.setBus_ppu (s : State) (b : Bus) : (s.setBus b).ppu = s.ppu := rfl
@[simp] theorem State.setBus_bus (s : State) (b : Bus) : (s.setBus b).bus = b := rfl
@[simp] theorem State.setBus_cart (s : State) (b : Bus) : (s.setBus b).cart = s.cart := rfl
@[simp] theorem State.setBus_params (s : State) (b : Bus) : (s.setBus b).params = s.params := rfl
@[simp] theorem State.setBus_out (s : State) (b : Bus) : (s.setBus b).out = s.out := rfl
@[simp] theorem State.setBus_refusal (s : State) (b : Bus) : (s.setBus b).refusal = s.refusal := rfl

@[simp] theorem State.refuse_cpu (s : State) (r : Refusal) : (s.refuse r).cpu = s.cpu := rfl
@[simp] theorem State.refuse_ppu (s : State) (r : Refusal) : (s.refuse r).ppu = s.ppu := rfl
@[simp] theorem State.refuse_bus (s : State) (r : Refusal) : (s.refuse r).bus = s.bus := rfl
@[simp] theorem State.refuse_cart (s : State) (r : Refusal) : (s.refuse r).cart = s.cart := rfl
@[simp] theorem State.refuse_params (s : State) (r : Refusal) : (s.refuse r).params = s.params := rfl
@[simp] theorem State.refuse_out (s : State) (r : Refusal) : (s.refuse r).out = s.out := rfl
@[simp] theorem State.refuse_refusal (s : State) (r : Refusal) : (s.refuse r).refusal = some r := rfl

@[simp] theorem State.setA_cpu (s : State) (v : Byte) : (s.setA v).cpu = { s.cpu with a := v } := rfl
@[simp] theorem State.setA_ppu (s : State) (v : Byte) : (s.setA v).ppu = s.ppu := rfl
@[simp] theorem State.setA_bus (s : State) (v : Byte) : (s.setA v).bus = s.bus := rfl
@[simp] theorem State.setA_cart (s : State) (v : Byte) : (s.setA v).cart = s.cart := rfl
@[simp] theorem State.setA_params (s : State) (v : Byte) : (s.setA v).params = s.params := rfl
@[simp] theorem State.setA_out (s : State) (v : Byte) : (s.setA v).out = s.out := rfl
@[simp] theorem State.setA_refusal (s : State) (v : Byte) : (s.setA v).refusal = s.refusal := rfl

@[simp] theorem State.setX_cpu (s : State) (v : Byte) : (s.setX v).cpu = { s.cpu with x := v } := rfl
@[simp] theorem State.setX_ppu (s : State) (v : Byte) : (s.setX v).ppu = s.ppu := rfl
@[simp] theorem State.setX_bus (s : State) (v : Byte) : (s.setX v).bus = s.bus := rfl
@[simp] theorem State.setX_cart (s : State) (v : Byte) : (s.setX v).cart = s.cart := rfl
@[simp] theorem State.setX_params (s : State) (v : Byte) : (s.setX v).params = s.params := rfl
@[simp] theorem State.setX_out (s : State) (v : Byte) : (s.setX v).out = s.out := rfl
@[simp] theorem State.setX_refusal (s : State) (v : Byte) : (s.setX v).refusal = s.refusal := rfl

@[simp] theorem State.setY_cpu (s : State) (v : Byte) : (s.setY v).cpu = { s.cpu with y := v } := rfl
@[simp] theorem State.setY_ppu (s : State) (v : Byte) : (s.setY v).ppu = s.ppu := rfl
@[simp] theorem State.setY_bus (s : State) (v : Byte) : (s.setY v).bus = s.bus := rfl
@[simp] theorem State.setY_cart (s : State) (v : Byte) : (s.setY v).cart = s.cart := rfl
@[simp] theorem State.setY_params (s : State) (v : Byte) : (s.setY v).params = s.params := rfl
@[simp] theorem State.setY_out (s : State) (v : Byte) : (s.setY v).out = s.out := rfl
@[simp] theorem State.setY_refusal (s : State) (v : Byte) : (s.setY v).refusal = s.refusal := rfl

@[simp] theorem State.setS_cpu (s : State) (v : Byte) : (s.setS v).cpu = { s.cpu with s := v } := rfl
@[simp] theorem State.setS_ppu (s : State) (v : Byte) : (s.setS v).ppu = s.ppu := rfl
@[simp] theorem State.setS_bus (s : State) (v : Byte) : (s.setS v).bus = s.bus := rfl
@[simp] theorem State.setS_cart (s : State) (v : Byte) : (s.setS v).cart = s.cart := rfl
@[simp] theorem State.setS_params (s : State) (v : Byte) : (s.setS v).params = s.params := rfl
@[simp] theorem State.setS_out (s : State) (v : Byte) : (s.setS v).out = s.out := rfl
@[simp] theorem State.setS_refusal (s : State) (v : Byte) : (s.setS v).refusal = s.refusal := rfl

@[simp] theorem State.setP_cpu (s : State) (v : Byte) : (s.setP v).cpu = { s.cpu with p := v } := rfl
@[simp] theorem State.setP_ppu (s : State) (v : Byte) : (s.setP v).ppu = s.ppu := rfl
@[simp] theorem State.setP_bus (s : State) (v : Byte) : (s.setP v).bus = s.bus := rfl
@[simp] theorem State.setP_cart (s : State) (v : Byte) : (s.setP v).cart = s.cart := rfl
@[simp] theorem State.setP_params (s : State) (v : Byte) : (s.setP v).params = s.params := rfl
@[simp] theorem State.setP_out (s : State) (v : Byte) : (s.setP v).out = s.out := rfl
@[simp] theorem State.setP_refusal (s : State) (v : Byte) : (s.setP v).refusal = s.refusal := rfl

@[simp] theorem State.setPc_cpu (s : State) (v : Word) : (s.setPc v).cpu = { s.cpu with pc := v } := rfl
@[simp] theorem State.setPc_ppu (s : State) (v : Word) : (s.setPc v).ppu = s.ppu := rfl
@[simp] theorem State.setPc_bus (s : State) (v : Word) : (s.setPc v).bus = s.bus := rfl
@[simp] theorem State.setPc_cart (s : State) (v : Word) : (s.setPc v).cart = s.cart := rfl
@[simp] theorem State.setPc_params (s : State) (v : Word) : (s.setPc v).params = s.params := rfl
@[simp] theorem State.setPc_out (s : State) (v : Word) : (s.setPc v).out = s.out := rfl
@[simp] theorem State.setPc_refusal (s : State) (v : Word) : (s.setPc v).refusal = s.refusal := rfl

@[simp] theorem State.setEffAddr_cpu (s : State) (v : Word) : (s.setEffAddr v).cpu = { s.cpu with effAddr := v } := rfl
@[simp] theorem State.setEffAddr_ppu (s : State) (v : Word) : (s.setEffAddr v).ppu = s.ppu := rfl
@[simp] theorem State.setEffAddr_bus (s : State) (v : Word) : (s.setEffAddr v).bus = s.bus := rfl
@[simp] theorem State.setEffAddr_cart (s : State) (v : Word) : (s.setEffAddr v).cart = s.cart := rfl
@[simp] theorem State.setEffAddr_params (s : State) (v : Word) : (s.setEffAddr v).params = s.params := rfl
@[simp] theorem State.setEffAddr_out (s : State) (v : Word) : (s.setEffAddr v).out = s.out := rfl
@[simp] theorem State.setEffAddr_refusal (s : State) (v : Word) : (s.setEffAddr v).refusal = s.refusal := rfl

@[simp] theorem State.setCycles_cpu (s : State) (v : Byte) : (s.setCycles v).cpu = { s.cpu with cyclesLeft := v } := rfl
@[simp] theorem State.setCycles_ppu (s : State) (v : Byte) : (s.setCycles v).ppu = s.ppu := rfl
@[simp] theorem State.setCycles_bus (s : State) (v : Byte) : (s.setCycles v).bus = s.bus := rfl
@[simp] theorem State.setCycles_cart (s : State) (v : Byte) : (s.setCycles v).cart = s.cart := rfl
@[simp] theorem State.setCycles_params (s : State) (v : Byte) : (s.setCycles v).params = s.params := rfl
@[simp] theorem State.setCycles_out (s : State) (v : Byte) : (s.setCycles v).out = s.out := rfl
@[simp] theorem State.setCycles_refusal (s : State) (v : Byte) : (s.setCycles v).refusal = s.refusal := rfl

@[simp] theorem State.loadA_cpu (s : State) (v : Byte) : (s.loadA v).cpu = { s.cpu with a := v, p := setNZ s.cpu.p v } := rfl
@[simp] theorem State.loadA_ppu (s : State) (v : Byte) : (s.loadA v).ppu = s.ppu := rfl
@[simp] theorem State.loadA_bus (s : State) (v : Byte) : (s.loadA v).bus = s.bus := rfl
@[simp] theorem State.loadA_cart (s : State) (v : Byte) : (s.loadA v).cart = s.cart := rfl
@[simp] theorem State.loadA_params (s : State) (v : Byte) : (s.loadA v).params = s.params := rfl
@[simp] theorem State.loadA_out (s : State) (v : Byte) : (s.loadA v).out = s.out := rfl
@[simp] theorem State.loadA_refusal (s : State) (v : Byte) : (s.loadA v).refusal = s.refusal := rfl

@[simp] theorem State.loadX_cpu (s : State) (v : Byte) : (s.loadX v).cpu = { s.cpu with x := v, p := setNZ s.cpu.p v } := rfl
@[simp] theorem State.loadX_ppu (s : State) (v : Byte) : (s.loadX v).ppu = s.ppu := rfl
@[simp] theorem State.loadX_bus (s : State) (v : Byte) : (s.loadX v).bus = s.bus := rfl
@[simp] theorem State.loadX_cart (s : State) (v : Byte) : (s.loadX v).cart = s.cart := rfl
@[simp] theorem State.loadX_params (s : State) (v : Byte) : (s.loadX v).params = s.params := rfl
@[simp] theorem State.loadX_out (s : State) (v : Byte) : (s.loadX v).out = s.out := rfl
@[simp] theorem State.loadX_refusal (s : State) (v : Byte) : (s.loadX v).refusal = s.refusal := rfl

@[simp] theorem State.loadY_cpu (s : State) (v : Byte) : (s.loadY v).cpu = { s.cpu with y := v, p := setNZ s.cpu.p v } := rfl
@[simp] theorem State.loadY_ppu (s : State) (v : Byte) : (s.loadY v).ppu = s.ppu := rfl
@[simp] theorem State.loadY_bus (s : State) (v : Byte) : (s.loadY v).bus = s.bus := rfl
@[simp] theorem State.loadY_cart (s : State) (v : Byte) : (s.loadY v).cart = s.cart := rfl
@[simp] theorem State.loadY_params (s : State) (v : Byte) : (s.loadY v).params = s.params := rfl
@[simp] theorem State.loadY_out (s : State) (v : Byte) : (s.loadY v).out = s.out := rfl
@[simp] theorem State.loadY_refusal (s : State) (v : Byte) : (s.loadY v).refusal = s.refusal := rfl

/-- Two updates of the CPU: the second one stays. -/
@[simp] theorem State.setCpu_setCpu (s : State) (c d : Cpu) : (s.setCpu c).setCpu d = s.setCpu d := rfl

/-- Putting back the CPU that is there changes nothing. -/
@[simp] theorem State.setCpu_self (s : State) : s.setCpu s.cpu = s := rfl

/-- Two updates of the PPU: the second one stays. -/
@[simp] theorem State.setPpu_setPpu (s : State) (p q : Ppu) : (s.setPpu p).setPpu q = s.setPpu q := rfl

/-- Putting back the PPU that is there changes nothing. -/
@[simp] theorem State.setPpu_self (s : State) : s.setPpu s.ppu = s := rfl

/-- Two updates of the Bus: the second one stays. -/
@[simp] theorem State.setBus_setBus (s : State) (b d : Bus) : (s.setBus b).setBus d = s.setBus d := rfl

/-- Putting back the Bus that is there changes nothing. -/
@[simp] theorem State.setBus_self (s : State) : s.setBus s.bus = s := rfl

/-- Updates of the CPU and of the PPU do not meet. -/
theorem State.setCpu_setPpu (s : State) (c : Cpu) (p : Ppu) : (s.setCpu c).setPpu p = (s.setPpu p).setCpu c := rfl

/-- `State.reset` is what power-on and the reset that follows it answer for the blank cartridge. -/
theorem Laws.reset_is_power_on :
    State.powerOn ⟨0, 1, 0, .horizontal, false, []⟩ defaultParams ⟨0#8, 0#8, 0#8, [], [], [], [], [], []⟩
      = .next State.reset := rfl

end Sys2Proof.Machine
end

