-- ==== Sys2Proof/Laws/Bus.lean ====
section
/-! SUPPORT. What an access of the CPU or the PPU can do: which parts of the state it leaves alone, and when it has an
answer. -/

namespace Sys2Proof.Machine

/-- A nametable has a physical page unless the mirroring is FOUR. -/
theorem vramIndex_isSome {c : Cart} (h : mirrorMode c ≠ .four) (a : PpuAddr) : ∃ i, vramIndex c a = some i := by
  unfold vramIndex nametablePage
  split <;> simp_all

/-- A PPU read has an answer and changes nothing, unless the mirroring is FOUR. -/
theorem ppuRead_snd {s : State} (h : mirrorMode s.cart ≠ .four) (a : PpuAddr) : (ppuRead s a).2 = s := by
  obtain ⟨i, hi⟩ := vramIndex_isSome h a
  unfold ppuRead
  split
  · rfl
  · split
    · rfl
    · split
      · rw [hi]
      · rfl

/-- A PPU read can change nothing but the refusal mark. -/
theorem ppuRead_cases (s : State) (a : PpuAddr) :
    (ppuRead s a).2 = s ∨ (ppuRead s a).2 = s.refuse .fourScreenUnmodelled := by
  unfold ppuRead
  split
  · exact .inl rfl
  · split
    · exact .inl rfl
    · split
      · split
        · exact .inl rfl
        · exact .inr rfl
      · exact .inl rfl

@[simp] theorem ppuRead_cpu (s : State) (a : PpuAddr) : (ppuRead s a).2.cpu = s.cpu := by
  rcases ppuRead_cases s a with h | h <;> (rw [h]; try rfl)

@[simp] theorem ppuRead_ppu (s : State) (a : PpuAddr) : (ppuRead s a).2.ppu = s.ppu := by
  rcases ppuRead_cases s a with h | h <;> (rw [h]; try rfl)

@[simp] theorem ppuRead_bus (s : State) (a : PpuAddr) : (ppuRead s a).2.bus = s.bus := by
  rcases ppuRead_cases s a with h | h <;> (rw [h]; try rfl)

@[simp] theorem ppuRead_cart (s : State) (a : PpuAddr) : (ppuRead s a).2.cart = s.cart := by
  rcases ppuRead_cases s a with h | h <;> (rw [h]; try rfl)

@[simp] theorem ppuRead_params (s : State) (a : PpuAddr) : (ppuRead s a).2.params = s.params := by
  rcases ppuRead_cases s a with h | h <;> (rw [h]; try rfl)

@[simp] theorem ppuRead_out (s : State) (a : PpuAddr) : (ppuRead s a).2.out = s.out := by
  rcases ppuRead_cases s a with h | h <;> (rw [h]; try rfl)

/-- A PPU read looks at the cartridge and the Bus alone. -/
theorem ppuRead_fst_congr {s t : State} (hb : s.bus = t.bus) (hc : s.cart = t.cart) (a : PpuAddr) :
    (ppuRead s a).1 = (ppuRead t a).1 := by
  unfold ppuRead
  rw [hb, hc]
  split
  · rfl
  · split
    · rfl
    · split
      · split <;> rfl
      · rfl

/-- A PPU write changes one store of the Bus, or nothing, or marks the state refused. -/
theorem ppuWrite_cases (s : State) (a : PpuAddr) (v : Byte) :
    ppuWrite s a v = s.refuse .fourScreenUnmodelled ∨ ∃ vr pa pt,
      ppuWrite s a v = s.setBus { s.bus with vram := vr, palette := pa, pattern := pt } := by
  unfold ppuWrite
  split
  · exact .inr ⟨s.bus.vram, s.bus.palette, s.bus.pattern, rfl⟩
  · split
    · exact .inr ⟨_, _, _, rfl⟩
    · split
      · split
        · exact .inr ⟨_, _, _, rfl⟩
        · exact .inl rfl
      · exact .inr ⟨_, _, _, rfl⟩

@[simp] theorem ppuWrite_cpu (s : State) (a : PpuAddr) (v : Byte) : (ppuWrite s a v).cpu = s.cpu := by
  rcases ppuWrite_cases s a v with h | ⟨_, _, _, h⟩ <;> (rw [h]; rfl)

@[simp] theorem ppuWrite_ppu (s : State) (a : PpuAddr) (v : Byte) : (ppuWrite s a v).ppu = s.ppu := by
  rcases ppuWrite_cases s a v with h | ⟨_, _, _, h⟩ <;> (rw [h]; rfl)

@[simp] theorem ppuWrite_cart (s : State) (a : PpuAddr) (v : Byte) : (ppuWrite s a v).cart = s.cart := by
  rcases ppuWrite_cases s a v with h | ⟨_, _, _, h⟩ <;> (rw [h]; rfl)

@[simp] theorem ppuWrite_params (s : State) (a : PpuAddr) (v : Byte) : (ppuWrite s a v).params = s.params := by
  rcases ppuWrite_cases s a v with h | ⟨_, _, _, h⟩ <;> (rw [h]; rfl)

@[simp] theorem ppuWrite_out (s : State) (a : PpuAddr) (v : Byte) : (ppuWrite s a v).out = s.out := by
  rcases ppuWrite_cases s a v with h | ⟨_, _, _, h⟩ <;> (rw [h]; rfl)

theorem ppuWrite_refusal {s : State} (h : mirrorMode s.cart ≠ .four) (a : PpuAddr) (v : Byte) :
    (ppuWrite s a v).refusal = s.refusal := by
  obtain ⟨i, hi⟩ := vramIndex_isSome h a
  unfold ppuWrite
  split
  · rfl
  · split
    · rfl
    · split
      · rw [hi]
      · rfl

/-- What a CPU read can leave behind: the PPU with its Status, w, V and read buffer changed, and the refusal mark. -/
structure ReadEffect (s t : State) : Prop where
  cpu    : t.cpu = s.cpu
  bus    : t.bus = s.bus
  cart   : t.cart = s.cart
  params : t.params = s.params
  out    : t.out = s.out
  ppu    : t.ppu = { s.ppu with
    status := ⟨s.ppu.status.current, t.ppu.status.new⟩, w := t.ppu.w, v := t.ppu.v, readBuffer := t.ppu.readBuffer }
  status : t.ppu.status = s.ppu.status ∨ t.ppu.status = s.ppu.status.clear 7
  ready  : s.Ready → t.refusal = none

theorem ReadEffect.refl (s : State) : ReadEffect s s :=
  ⟨rfl, rfl, rfl, rfl, rfl, rfl, .inl rfl, fun h => h.1⟩

theorem statusRead_effect (s : State) : ReadEffect s (statusRead s).2 :=
  ⟨rfl, rfl, rfl, rfl, rfl, rfl, .inr rfl, fun h => h.1⟩

theorem dataRead_effect (s : State) : ReadEffect s (dataRead s).2 := by
  unfold dataRead
  simp only []
  split
  · refine ⟨by simp, by simp, by simp, by simp, by simp, ?_, .inl ?_, fun h => ?_⟩
    · simp [Ppu.advanceV]
    · simp [Ppu.advanceV]
    · have h1 := ppuRead_snd h.2 s.ppu.vAddr
      simp only [h1]
      rw [ppuRead_snd h.2]
      exact h.1
  · refine ⟨by simp, by simp, by simp, by simp, by simp, ?_, .inl ?_, fun h => ?_⟩
    · simp [Ppu.advanceV]
    · simp [Ppu.advanceV]
    · rw [ppuRead_snd h.2]
      exact h.1

theorem memRead_effect (s : State) (a : Word) : ReadEffect s (memRead s a).2 := by
  unfold memRead
  split
  · exact .refl s
  · split
    · exact .refl s
    · split
      · unfold ppuCpuRead
        split
        · exact statusRead_effect s
        · exact .refl s
        · exact dataRead_effect s
        · exact .refl s
      · split <;> exact .refl s

@[simp] theorem memRead_cpu (s : State) (a : Word) : (memRead s a).2.cpu = s.cpu := (memRead_effect s a).cpu

@[simp] theorem memRead_bus (s : State) (a : Word) : (memRead s a).2.bus = s.bus := (memRead_effect s a).bus

@[simp] theorem memRead_cart (s : State) (a : Word) : (memRead s a).2.cart = s.cart := (memRead_effect s a).cart

@[simp] theorem memRead_params (s : State) (a : Word) : (memRead s a).2.params = s.params := (memRead_effect s a).params

@[simp] theorem memRead_out (s : State) (a : Word) : (memRead s a).2.out = s.out := (memRead_effect s a).out

/-- A read keeps the state ready. -/
theorem memRead_ready {s : State} (h : s.Ready) (a : Word) : (memRead s a).2.Ready :=
  ⟨(memRead_effect s a).ready h, by simpa using h.2⟩

theorem ppuRead_setCpu (s : State) (c : Cpu) (a : PpuAddr) :
    ppuRead (s.setCpu c) a = ((ppuRead s a).1, (ppuRead s a).2.setCpu c) := by
  unfold ppuRead
  simp only [State.setCpu_cart, State.setCpu_bus]
  split
  · rfl
  · split
    · rfl
    · split
      · split <;> rfl
      · rfl

/-- A CPU read does not look at the CPU's registers. -/
theorem memRead_setCpu (s : State) (c : Cpu) (a : Word) :
    memRead (s.setCpu c) a = ((memRead s a).1, (memRead s a).2.setCpu c) := by
  unfold memRead
  simp only [State.setCpu_cart, State.setCpu_bus]
  split
  · rfl
  · split
    · rfl
    · split
      · unfold ppuCpuRead
        split
        · rfl
        · rfl
        · unfold dataRead
          simp only [State.setCpu_ppu, ppuRead_setCpu]
          split <;> rfl
        · rfl
      · split <;> rfl

@[simp] theorem peek_setCpu (s : State) (c : Cpu) (a : Word) : peek (s.setCpu c) a = peek s a := by
  unfold peek; rw [memRead_setCpu]

theorem mmc1Serial_mirror (c : Cart) (h : c.mapper = .mmc1) (a : Word) (v : Byte) :
    (mmc1Serial c a v).mapper = .mmc1 := by
  unfold mmc1Serial mmc1Commit
  split
  · exact h
  · split
    · simp only []
      split <;> exact h
    · exact h

theorem mirrorMode_mmc1 {c : Cart} (h : c.mapper = .mmc1) : mirrorMode c ≠ .four := by
  unfold mirrorMode
  rw [h]
  simp only []
  split <;> simp

/-- What the mapper does with a CPU write leaves the mirroring modelled. -/
theorem mapperWriteCpu_mirror {c d : Cart} {a : Word} {v : Byte} (hm : mirrorMode c ≠ .four)
    (h : mapperWriteCpu c a v = some d) : mirrorMode d ≠ .four := by
  unfold mapperWriteCpu at h
  split at h
  · cases h
  · split at h
    · cases h; exact hm
    · split at h
      · cases h; exact hm
      · cases h; exact mirrorMode_mmc1 (mmc1Serial_mirror c ‹_› a v)

@[simp] theorem ppuCpuWrite_cpu (s : State) (r : BitVec 3) (v : Byte) : (ppuCpuWrite s r v).cpu = s.cpu := by
  unfold ppuCpuWrite dataWrite
  split <;> simp

@[simp] theorem ppuCpuWrite_cart (s : State) (r : BitVec 3) (v : Byte) : (ppuCpuWrite s r v).cart = s.cart := by
  unfold ppuCpuWrite dataWrite
  split <;> simp

@[simp] theorem ppuCpuWrite_params (s : State) (r : BitVec 3) (v : Byte) : (ppuCpuWrite s r v).params = s.params := by
  unfold ppuCpuWrite dataWrite
  split <;> simp

theorem ppuCpuWrite_refusal {s : State} (h : mirrorMode s.cart ≠ .four) (r : BitVec 3) (v : Byte) :
    (ppuCpuWrite s r v).refusal = s.refusal := by
  unfold ppuCpuWrite dataWrite
  split <;> simp [ppuWrite_refusal h]

@[simp] theorem memWrite_cpu (s : State) (a : Word) (v : Byte) : (memWrite s a v).cpu = s.cpu := by
  unfold memWrite
  split
  · rfl
  · split
    · rfl
    · split
      · simp
      · split
        · split <;> rfl
        · rfl

@[simp] theorem memWrite_params (s : State) (a : Word) (v : Byte) : (memWrite s a v).params = s.params := by
  unfold memWrite
  split
  · rfl
  · split
    · rfl
    · split
      · simp
      · split
        · split <;> rfl
        · rfl

/-- A write keeps the state ready. -/
theorem memWrite_ready {s : State} (h : s.Ready) (a : Word) (v : Byte) : (memWrite s a v).Ready := by
  unfold memWrite
  split
  · exact ⟨h.1, mapperWriteCpu_mirror h.2 ‹_›⟩
  · split
    · exact h
    · split
      · exact ⟨by rw [ppuCpuWrite_refusal h.2]; exact h.1, by simpa using h.2⟩
      · split
        · split <;> exact h
        · exact h

theorem ppuWrite_setCpu (s : State) (c : Cpu) (a : PpuAddr) (v : Byte) :
    ppuWrite (s.setCpu c) a v = (ppuWrite s a v).setCpu c := by
  unfold ppuWrite
  by_cases h1 : mapperClaimsPpu s.cart a = true
  · rw [if_pos (show mapperClaimsPpu (s.setCpu c).cart a = true from h1), if_pos h1]
  · rw [if_neg (show ¬ mapperClaimsPpu (s.setCpu c).cart a = true from h1), if_neg h1]
    by_cases h2 : a < 0x2000#14
    · rw [if_pos h2, if_pos h2]; rfl
    · rw [if_neg h2, if_neg h2]
      by_cases h3 : a < 0x3F00#14
      · rw [if_pos h3, if_pos h3, State.setCpu_cart]; cases vramIndex s.cart a <;> rfl
      · rw [if_neg h3, if_neg h3]; rfl

theorem ppuCpuWrite_setCpu (s : State) (c : Cpu) (r : BitVec 3) (v : Byte) :
    ppuCpuWrite (s.setCpu c) r v = (ppuCpuWrite s r v).setCpu c := by
  unfold ppuCpuWrite dataWrite
  simp only [State.setCpu_ppu, ppuWrite_setCpu]
  split <;> rfl

/-- A CPU write does not look at the CPU's registers. -/
theorem memWrite_setCpu (s : State) (c : Cpu) (a : Word) (v : Byte) :
    memWrite (s.setCpu c) a v = (memWrite s a v).setCpu c := by
  unfold memWrite
  simp only [State.setCpu_cart, State.setCpu_bus, ppuCpuWrite_setCpu]
  cases mapperWriteCpu s.cart a v with
  | some d => rfl
  | none =>
    by_cases h1 : a < 0x2000#16
    · simp only [if_pos h1]; rfl
    · by_cases h2 : a < 0x4000#16
      · simp only [if_neg h1, if_pos h2]
      · by_cases h3 : a < 0x4018#16
        · by_cases h4 : a = 0x4014#16 <;> simp only [if_neg h1, if_neg h2, if_pos h3, h4, if_true, if_false] <;> rfl
        · simp only [if_neg h1, if_neg h2, if_neg h3]

/-- A setCpu keeps the state ready. -/
@[simp] theorem setCpu_ready (s : State) (c : Cpu) : (s.setCpu c).Ready ↔ s.Ready := Iff.rfl

/-- A ready state is answered as the next one. -/
theorem finish_of_none {s : State} (h : s.refusal = none) : finish s = .next s := by
  unfold finish; rw [h]

/-- When `finish` answers a next state. -/
theorem finish_eq_next {s t : State} : finish s = .next t ↔ s.refusal = none ∧ s = t := by
  unfold finish
  split
  · simp_all
  · constructor
    · intro h; cases h
    · intro ⟨h, _⟩; simp_all

end Sys2Proof.Machine
end

