-- ==== Sys2Proof/Laws/Decode.lean ====
section
/-! SUPPORT. The opcode map, entry by entry, the bytes of a word, and the length and the operand of every instruction. -/

namespace Sys2Proof

@[simp] theorem wordOf_lo_hi (w : Word) : wordOf (loByte w) (hiByte w) = w := by
  apply BitVec.eq_of_toNat_eq
  have := w.isLt
  simp only [wordOf, loByte, hiByte, BitVec.toNat_append, BitVec.extractLsb'_toNat, Nat.shiftLeft_eq,
    Nat.shiftRight_eq_div_pow]
  rw [← Nat.shiftLeft_eq, ← Nat.shiftLeft_add_eq_or_of_lt (by omega), Nat.shiftLeft_eq]
  omega

@[simp] theorem loByte_wordOf (lo hi : Byte) : loByte (wordOf lo hi) = lo := by
  unfold loByte wordOf
  rw [BitVec.extractLsb'_append_eq_right]

@[simp] theorem hiByte_wordOf (lo hi : Byte) : hiByte (wordOf lo hi) = hi := by
  unfold hiByte wordOf
  rw [BitVec.extractLsb'_append_eq_left]

@[simp] theorem opInfo_00 : opInfo 0x00#8 = ⟨.imp, 7#8, false⟩ := rfl
@[simp] theorem opInfo_01 : opInfo 0x01#8 = ⟨.izx, 6#8, false⟩ := rfl
@[simp] theorem opInfo_02 : opInfo 0x02#8 = ⟨.imp, 2#8, false⟩ := rfl
@[simp] theorem opInfo_03 : opInfo 0x03#8 = ⟨.izx, 8#8, false⟩ := rfl
@[simp] theorem opInfo_04 : opInfo 0x04#8 = ⟨.zp0, 3#8, false⟩ := rfl
@[simp] theorem opInfo_05 : opInfo 0x05#8 = ⟨.zp0, 3#8, false⟩ := rfl
@[simp] theorem opInfo_06 : opInfo 0x06#8 = ⟨.zp0, 5#8, false⟩ := rfl
@[simp] theorem opInfo_07 : opInfo 0x07#8 = ⟨.zp0, 5#8, false⟩ := rfl
@[simp] theorem opInfo_08 : opInfo 0x08#8 = ⟨.imp, 3#8, false⟩ := rfl
@[simp] theorem opInfo_09 : opInfo 0x09#8 = ⟨.imm, 2#8, false⟩ := rfl
@[simp] theorem opInfo_0A : opInfo 0x0A#8 = ⟨.acc, 2#8, false⟩ := rfl
@[simp] theorem opInfo_0B : opInfo 0x0B#8 = ⟨.imm, 2#8, false⟩ := rfl
@[simp] theorem opInfo_0C : opInfo 0x0C#8 = ⟨.abs, 4#8, false⟩ := rfl
@[simp] theorem opInfo_0D : opInfo 0x0D#8 = ⟨.abs, 4#8, false⟩ := rfl
@[simp] theorem opInfo_0E : opInfo 0x0E#8 = ⟨.abs, 6#8, false⟩ := rfl
@[simp] theorem opInfo_0F : opInfo 0x0F#8 = ⟨.abs, 6#8, false⟩ := rfl
@[simp] theorem opInfo_10 : opInfo 0x10#8 = ⟨.rel, 2#8, false⟩ := rfl
@[simp] theorem opInfo_11 : opInfo 0x11#8 = ⟨.izy, 5#8, true⟩ := rfl
@[simp] theorem opInfo_12 : opInfo 0x12#8 = ⟨.imp, 2#8, false⟩ := rfl
@[simp] theorem opInfo_13 : opInfo 0x13#8 = ⟨.izy, 8#8, false⟩ := rfl
@[simp] theorem opInfo_14 : opInfo 0x14#8 = ⟨.zpx, 4#8, false⟩ := rfl
@[simp] theorem opInfo_15 : opInfo 0x15#8 = ⟨.zpx, 4#8, false⟩ := rfl
@[simp] theorem opInfo_16 : opInfo 0x16#8 = ⟨.zpx, 6#8, false⟩ := rfl
@[simp] theorem opInfo_17 : opInfo 0x17#8 = ⟨.zpx, 6#8, false⟩ := rfl
@[simp] theorem opInfo_18 : opInfo 0x18#8 = ⟨.imp, 2#8, false⟩ := rfl
@[simp] theorem opInfo_19 : opInfo 0x19#8 = ⟨.aby, 4#8, true⟩ := rfl
@[simp] theorem opInfo_1A : opInfo 0x1A#8 = ⟨.imp, 2#8, false⟩ := rfl
@[simp] theorem opInfo_1B : opInfo 0x1B#8 = ⟨.aby, 7#8, false⟩ := rfl
@[simp] theorem opInfo_1C : opInfo 0x1C#8 = ⟨.abx, 4#8, true⟩ := rfl
@[simp] theorem opInfo_1D : opInfo 0x1D#8 = ⟨.abx, 4#8, true⟩ := rfl
@[simp] theorem opInfo_1E : opInfo 0x1E#8 = ⟨.abx, 7#8, false⟩ := rfl
@[simp] theorem opInfo_1F : opInfo 0x1F#8 = ⟨.abx, 7#8, false⟩ := rfl
@[simp] theorem opInfo_20 : opInfo 0x20#8 = ⟨.abs, 6#8, false⟩ := rfl
@[simp] theorem opInfo_21 : opInfo 0x21#8 = ⟨.izx, 6#8, false⟩ := rfl
@[simp] theorem opInfo_22 : opInfo 0x22#8 = ⟨.imp, 2#8, false⟩ := rfl
@[simp] theorem opInfo_23 : opInfo 0x23#8 = ⟨.izx, 8#8, false⟩ := rfl
@[simp] theorem opInfo_24 : opInfo 0x24#8 = ⟨.zp0, 3#8, false⟩ := rfl
@[simp] theorem opInfo_25 : opInfo 0x25#8 = ⟨.zp0, 3#8, false⟩ := rfl
@[simp] theorem opInfo_26 : opInfo 0x26#8 = ⟨.zp0, 5#8, false⟩ := rfl
@[simp] theorem opInfo_27 : opInfo 0x27#8 = ⟨.zp0, 5#8, false⟩ := rfl
@[simp] theorem opInfo_28 : opInfo 0x28#8 = ⟨.imp, 4#8, false⟩ := rfl
@[simp] theorem opInfo_29 : opInfo 0x29#8 = ⟨.imm, 2#8, false⟩ := rfl
@[simp] theorem opInfo_2A : opInfo 0x2A#8 = ⟨.acc, 2#8, false⟩ := rfl
@[simp] theorem opInfo_2B : opInfo 0x2B#8 = ⟨.imm, 2#8, false⟩ := rfl
@[simp] theorem opInfo_2C : opInfo 0x2C#8 = ⟨.abs, 4#8, false⟩ := rfl
@[simp] theorem opInfo_2D : opInfo 0x2D#8 = ⟨.abs, 4#8, false⟩ := rfl
@[simp] theorem opInfo_2E : opInfo 0x2E#8 = ⟨.abs, 6#8, false⟩ := rfl
@[simp] theorem opInfo_2F : opInfo 0x2F#8 = ⟨.abs, 6#8, false⟩ := rfl
@[simp] theorem opInfo_30 : opInfo 0x30#8 = ⟨.rel, 2#8, false⟩ := rfl
@[simp] theorem opInfo_31 : opInfo 0x31#8 = ⟨.izy, 5#8, true⟩ := rfl
@[simp] theorem opInfo_32 : opInfo 0x32#8 = ⟨.imp, 2#8, false⟩ := rfl
@[simp] theorem opInfo_33 : opInfo 0x33#8 = ⟨.izy, 8#8, false⟩ := rfl
@[simp] theorem opInfo_34 : opInfo 0x34#8 = ⟨.zpx, 4#8, false⟩ := rfl
@[simp] theorem opInfo_35 : opInfo 0x35#8 = ⟨.zpx, 4#8, false⟩ := rfl
@[simp] theorem opInfo_36 : opInfo 0x36#8 = ⟨.zpx, 6#8, false⟩ := rfl
@[simp] theorem opInfo_37 : opInfo 0x37#8 = ⟨.zpx, 6#8, false⟩ := rfl
@[simp] theorem opInfo_38 : opInfo 0x38#8 = ⟨.imp, 2#8, false⟩ := rfl
@[simp] theorem opInfo_39 : opInfo 0x39#8 = ⟨.aby, 4#8, true⟩ := rfl
@[simp] theorem opInfo_3A : opInfo 0x3A#8 = ⟨.imp, 2#8, false⟩ := rfl
@[simp] theorem opInfo_3B : opInfo 0x3B#8 = ⟨.aby, 7#8, false⟩ := rfl
@[simp] theorem opInfo_3C : opInfo 0x3C#8 = ⟨.abx, 4#8, true⟩ := rfl
@[simp] theorem opInfo_3D : opInfo 0x3D#8 = ⟨.abx, 4#8, true⟩ := rfl
@[simp] theorem opInfo_3E : opInfo 0x3E#8 = ⟨.abx, 7#8, false⟩ := rfl
@[simp] theorem opInfo_3F : opInfo 0x3F#8 = ⟨.abx, 7#8, false⟩ := rfl
@[simp] theorem opInfo_40 : opInfo 0x40#8 = ⟨.imp, 6#8, false⟩ := rfl
@[simp] theorem opInfo_41 : opInfo 0x41#8 = ⟨.izx, 6#8, false⟩ := rfl
@[simp] theorem opInfo_42 : opInfo 0x42#8 = ⟨.imp, 2#8, false⟩ := rfl
@[simp] theorem opInfo_43 : opInfo 0x43#8 = ⟨.izx, 8#8, false⟩ := rfl
@[simp] theorem opInfo_44 : opInfo 0x44#8 = ⟨.zp0, 3#8, false⟩ := rfl
@[simp] theorem opInfo_45 : opInfo 0x45#8 = ⟨.zp0, 3#8, false⟩ := rfl
@[simp] theorem opInfo_46 : opInfo 0x46#8 = ⟨.zp0, 5#8, false⟩ := rfl
@[simp] theorem opInfo_47 : opInfo 0x47#8 = ⟨.zp0, 5#8, false⟩ := rfl
@[simp] theorem opInfo_48 : opInfo 0x48#8 = ⟨.imp, 3#8, false⟩ := rfl
@[simp] theorem opInfo_49 : opInfo 0x49#8 = ⟨.imm, 2#8, false⟩ := rfl
@[simp] theorem opInfo_4A : opInfo 0x4A#8 = ⟨.acc, 2#8, false⟩ := rfl
@[simp] theorem opInfo_4B : opInfo 0x4B#8 = ⟨.imm, 2#8, false⟩ := rfl
@[simp] theorem opInfo_4C : opInfo 0x4C#8 = ⟨.abs, 3#8, false⟩ := rfl
@[simp] theorem opInfo_4D : opInfo 0x4D#8 = ⟨.abs, 4#8, false⟩ := rfl
@[simp] theorem opInfo_4E : opInfo 0x4E#8 = ⟨.abs, 6#8, false⟩ := rfl
@[simp] theorem opInfo_4F : opInfo 0x4F#8 = ⟨.abs, 6#8, false⟩ := rfl
@[simp] theorem opInfo_50 : opInfo 0x50#8 = ⟨.rel, 2#8, false⟩ := rfl
@[simp] theorem opInfo_51 : opInfo 0x51#8 = ⟨.izy, 5#8, true⟩ := rfl
@[simp] theorem opInfo_52 : opInfo 0x52#8 = ⟨.imp, 2#8, false⟩ := rfl
@[simp] theorem opInfo_53 : opInfo 0x53#8 = ⟨.izy, 8#8, false⟩ := rfl
@[simp] theorem opInfo_54 : opInfo 0x54#8 = ⟨.zpx, 4#8, false⟩ := rfl
@[simp] theorem opInfo_55 : opInfo 0x55#8 = ⟨.zpx, 4#8, false⟩ := rfl
@[simp] theorem opInfo_56 : opInfo 0x56#8 = ⟨.zpx, 6#8, false⟩ := rfl
@[simp] theorem opInfo_57 : opInfo 0x57#8 = ⟨.zpx, 6#8, false⟩ := rfl
@[simp] theorem opInfo_58 : opInfo 0x58#8 = ⟨.imp, 2#8, false⟩ := rfl
@[simp] theorem opInfo_59 : opInfo 0x59#8 = ⟨.aby, 4#8, true⟩ := rfl
@[simp] theorem opInfo_5A : opInfo 0x5A#8 = ⟨.imp, 2#8, false⟩ := rfl
@[simp] theorem opInfo_5B : opInfo 0x5B#8 = ⟨.aby, 7#8, false⟩ := rfl
@[simp] theorem opInfo_5C : opInfo 0x5C#8 = ⟨.abx, 4#8, true⟩ := rfl
@[simp] theorem opInfo_5D : opInfo 0x5D#8 = ⟨.abx, 4#8, true⟩ := rfl
@[simp] theorem opInfo_5E : opInfo 0x5E#8 = ⟨.abx, 7#8, false⟩ := rfl
@[simp] theorem opInfo_5F : opInfo 0x5F#8 = ⟨.abx, 7#8, false⟩ := rfl
@[simp] theorem opInfo_60 : opInfo 0x60#8 = ⟨.imp, 6#8, false⟩ := rfl
@[simp] theorem opInfo_61 : opInfo 0x61#8 = ⟨.izx, 6#8, false⟩ := rfl
@[simp] theorem opInfo_62 : opInfo 0x62#8 = ⟨.imp, 2#8, false⟩ := rfl
@[simp] theorem opInfo_63 : opInfo 0x63#8 = ⟨.izx, 8#8, false⟩ := rfl
@[simp] theorem opInfo_64 : opInfo 0x64#8 = ⟨.zp0, 3#8, false⟩ := rfl
@[simp] theorem opInfo_65 : opInfo 0x65#8 = ⟨.zp0, 3#8, false⟩ := rfl
@[simp] theorem opInfo_66 : opInfo 0x66#8 = ⟨.zp0, 5#8, false⟩ := rfl
@[simp] theorem opInfo_67 : opInfo 0x67#8 = ⟨.zp0, 5#8, false⟩ := rfl
@[simp] theorem opInfo_68 : opInfo 0x68#8 = ⟨.imp, 4#8, false⟩ := rfl
@[simp] theorem opInfo_69 : opInfo 0x69#8 = ⟨.imm, 2#8, false⟩ := rfl
@[simp] theorem opInfo_6A : opInfo 0x6A#8 = ⟨.acc, 2#8, false⟩ := rfl
@[simp] theorem opInfo_6B : opInfo 0x6B#8 = ⟨.imm, 2#8, false⟩ := rfl
@[simp] theorem opInfo_6C : opInfo 0x6C#8 = ⟨.ind, 5#8, false⟩ := rfl
@[simp] theorem opInfo_6D : opInfo 0x6D#8 = ⟨.abs, 4#8, false⟩ := rfl
@[simp] theorem opInfo_6E : opInfo 0x6E#8 = ⟨.abs, 6#8, false⟩ := rfl
@[simp] theorem opInfo_6F : opInfo 0x6F#8 = ⟨.abs, 6#8, false⟩ := rfl
@[simp] theorem opInfo_70 : opInfo 0x70#8 = ⟨.rel, 2#8, false⟩ := rfl
@[simp] theorem opInfo_71 : opInfo 0x71#8 = ⟨.izy, 5#8, true⟩ := rfl
@[simp] theorem opInfo_72 : opInfo 0x72#8 = ⟨.imp, 2#8, false⟩ := rfl
@[simp] theorem opInfo_73 : opInfo 0x73#8 = ⟨.izy, 8#8, false⟩ := rfl
@[simp] theorem opInfo_74 : opInfo 0x74#8 = ⟨.zpx, 4#8, false⟩ := rfl
@[simp] theorem opInfo_75 : opInfo 0x75#8 = ⟨.zpx, 4#8, false⟩ := rfl
@[simp] theorem opInfo_76 : opInfo 0x76#8 = ⟨.zpx, 6#8, false⟩ := rfl
@[simp] theorem opInfo_77 : opInfo 0x77#8 = ⟨.zpx, 6#8, false⟩ := rfl
@[simp] theorem opInfo_78 : opInfo 0x78#8 = ⟨.imp, 2#8, false⟩ := rfl
@[simp] theorem opInfo_79 : opInfo 0x79#8 = ⟨.aby, 4#8, true⟩ := rfl
@[simp] theorem opInfo_7A : opInfo 0x7A#8 = ⟨.imp, 2#8, false⟩ := rfl
@[simp] theorem opInfo_7B : opInfo 0x7B#8 = ⟨.aby, 7#8, false⟩ := rfl
@[simp] theorem opInfo_7C : opInfo 0x7C#8 = ⟨.abx, 4#8, true⟩ := rfl
@[simp] theorem opInfo_7D : opInfo 0x7D#8 = ⟨.abx, 4#8, true⟩ := rfl
@[simp] theorem opInfo_7E : opInfo 0x7E#8 = ⟨.abx, 7#8, false⟩ := rfl
@[simp] theorem opInfo_7F : opInfo 0x7F#8 = ⟨.abx, 7#8, false⟩ := rfl
@[simp] theorem opInfo_80 : opInfo 0x80#8 = ⟨.imm, 2#8, false⟩ := rfl
@[simp] theorem opInfo_81 : opInfo 0x81#8 = ⟨.izx, 6#8, false⟩ := rfl
@[simp] theorem opInfo_82 : opInfo 0x82#8 = ⟨.imm, 2#8, false⟩ := rfl
@[simp] theorem opInfo_83 : opInfo 0x83#8 = ⟨.izx, 6#8, false⟩ := rfl
@[simp] theorem opInfo_84 : opInfo 0x84#8 = ⟨.zp0, 3#8, false⟩ := rfl
@[simp] theorem opInfo_85 : opInfo 0x85#8 = ⟨.zp0, 3#8, false⟩ := rfl
@[simp] theorem opInfo_86 : opInfo 0x86#8 = ⟨.zp0, 3#8, false⟩ := rfl
@[simp] theorem opInfo_87 : opInfo 0x87#8 = ⟨.zp0, 3#8, false⟩ := rfl
@[simp] theorem opInfo_88 : opInfo 0x88#8 = ⟨.imp, 2#8, false⟩ := rfl
@[simp] theorem opInfo_89 : opInfo 0x89#8 = ⟨.imm, 2#8, false⟩ := rfl
@[simp] theorem opInfo_8A : opInfo 0x8A#8 = ⟨.imp, 2#8, false⟩ := rfl
@[simp] theorem opInfo_8B : opInfo 0x8B#8 = ⟨.imm, 2#8, false⟩ := rfl
@[simp] theorem opInfo_8C : opInfo 0x8C#8 = ⟨.abs, 4#8, false⟩ := rfl
@[simp] theorem opInfo_8D : opInfo 0x8D#8 = ⟨.abs, 4#8, false⟩ := rfl
@[simp] theorem opInfo_8E : opInfo 0x8E#8 = ⟨.abs, 4#8, false⟩ := rfl
@[simp] theorem opInfo_8F : opInfo 0x8F#8 = ⟨.abs, 4#8, false⟩ := rfl
@[simp] theorem opInfo_90 : opInfo 0x90#8 = ⟨.rel, 2#8, false⟩ := rfl
@[simp] theorem opInfo_91 : opInfo 0x91#8 = ⟨.izy, 6#8, false⟩ := rfl
@[simp] theorem opInfo_92 : opInfo 0x92#8 = ⟨.imp, 2#8, false⟩ := rfl
@[simp] theorem opInfo_93 : opInfo 0x93#8 = ⟨.izy, 6#8, false⟩ := rfl
@[simp] theorem opInfo_94 : opInfo 0x94#8 = ⟨.zpx, 4#8, false⟩ := rfl
@[simp] theorem opInfo_95 : opInfo 0x95#8 = ⟨.zpx, 4#8, false⟩ := rfl
@[simp] theorem opInfo_96 : opInfo 0x96#8 = ⟨.zpy, 4#8, false⟩ := rfl
@[simp] theorem opInfo_97 : opInfo 0x97#8 = ⟨.zpy, 4#8, false⟩ := rfl
@[simp] theorem opInfo_98 : opInfo 0x98#8 = ⟨.imp, 2#8, false⟩ := rfl
@[simp] theorem opInfo_99 : opInfo 0x99#8 = ⟨.aby, 5#8, false⟩ := rfl
@[simp] theorem opInfo_9A : opInfo 0x9A#8 = ⟨.imp, 2#8, false⟩ := rfl
@[simp] theorem opInfo_9B : opInfo 0x9B#8 = ⟨.aby, 5#8, false⟩ := rfl
@[simp] theorem opInfo_9C : opInfo 0x9C#8 = ⟨.abx, 5#8, false⟩ := rfl
@[simp] theorem opInfo_9D : opInfo 0x9D#8 = ⟨.abx, 5#8, false⟩ := rfl
@[simp] theorem opInfo_9E : opInfo 0x9E#8 = ⟨.aby, 5#8, false⟩ := rfl
@[simp] theorem opInfo_9F : opInfo 0x9F#8 = ⟨.aby, 5#8, false⟩ := rfl
@[simp] theorem opInfo_A0 : opInfo 0xA0#8 = ⟨.imm, 2#8, false⟩ := rfl
@[simp] theorem opInfo_A1 : opInfo 0xA1#8 = ⟨.izx, 6#8, false⟩ := rfl
@[simp] theorem opInfo_A2 : opInfo 0xA2#8 = ⟨.imm, 2#8, false⟩ := rfl
@[simp] theorem opInfo_A3 : opInfo 0xA3#8 = ⟨.izx, 6#8, false⟩ := rfl
@[simp] theorem opInfo_A4 : opInfo 0xA4#8 = ⟨.zp0, 3#8, false⟩ := rfl
@[simp] theorem opInfo_A5 : opInfo 0xA5#8 = ⟨.zp0, 3#8, false⟩ := rfl
@[simp] theorem opInfo_A6 : opInfo 0xA6#8 = ⟨.zp0, 3#8, false⟩ := rfl
@[simp] theorem opInfo_A7 : opInfo 0xA7#8 = ⟨.zp0, 3#8, false⟩ := rfl
@[simp] theorem opInfo_A8 : opInfo 0xA8#8 = ⟨.imp, 2#8, false⟩ := rfl
@[simp] theorem opInfo_A9 : opInfo 0xA9#8 = ⟨.imm, 2#8, false⟩ := rfl
@[simp] theorem opInfo_AA : opInfo 0xAA#8 = ⟨.imp, 2#8, false⟩ := rfl
@[simp] theorem opInfo_AB : opInfo 0xAB#8 = ⟨.imm, 2#8, false⟩ := rfl
@[simp] theorem opInfo_AC : opInfo 0xAC#8 = ⟨.abs, 4#8, false⟩ := rfl
@[simp] theorem opInfo_AD : opInfo 0xAD#8 = ⟨.abs, 4#8, false⟩ := rfl
@[simp] theorem opInfo_AE : opInfo 0xAE#8 = ⟨.abs, 4#8, false⟩ := rfl
@[simp] theorem opInfo_AF : opInfo 0xAF#8 = ⟨.abs, 4#8, false⟩ := rfl
@[simp] theorem opInfo_B0 : opInfo 0xB0#8 = ⟨.rel, 2#8, false⟩ := rfl
@[simp] theorem opInfo_B1 : opInfo 0xB1#8 = ⟨.izy, 5#8, true⟩ := rfl
@[simp] theorem opInfo_B2 : opInfo 0xB2#8 = ⟨.imp, 2#8, false⟩ := rfl
@[simp] theorem opInfo_B3 : opInfo 0xB3#8 = ⟨.izy, 5#8, true⟩ := rfl
@[simp] theorem opInfo_B4 : opInfo 0xB4#8 = ⟨.zpx, 4#8, false⟩ := rfl
@[simp] theorem opInfo_B5 : opInfo 0xB5#8 = ⟨.zpx, 4#8, false⟩ := rfl
@[simp] theorem opInfo_B6 : opInfo 0xB6#8 = ⟨.zpy, 4#8, false⟩ := rfl
@[simp] theorem opInfo_B7 : opInfo 0xB7#8 = ⟨.zpy, 4#8, false⟩ := rfl
@[simp] theorem opInfo_B8 : opInfo 0xB8#8 = ⟨.imp, 2#8, false⟩ := rfl
@[simp] theorem opInfo_B9 : opInfo 0xB9#8 = ⟨.aby, 4#8, true⟩ := rfl
@[simp] theorem opInfo_BA : opInfo 0xBA#8 = ⟨.imp, 2#8, false⟩ := rfl
@[simp] theorem opInfo_BB : opInfo 0xBB#8 = ⟨.aby, 4#8, true⟩ := rfl
@[simp] theorem opInfo_BC : opInfo 0xBC#8 = ⟨.abx, 4#8, true⟩ := rfl
@[simp] theorem opInfo_BD : opInfo 0xBD#8 = ⟨.abx, 4#8, true⟩ := rfl
@[simp] theorem opInfo_BE : opInfo 0xBE#8 = ⟨.aby, 4#8, true⟩ := rfl
@[simp] theorem opInfo_BF : opInfo 0xBF#8 = ⟨.aby, 4#8, true⟩ := rfl
@[simp] theorem opInfo_C0 : opInfo 0xC0#8 = ⟨.imm, 2#8, false⟩ := rfl
@[simp] theorem opInfo_C1 : opInfo 0xC1#8 = ⟨.izx, 6#8, false⟩ := rfl
@[simp] theorem opInfo_C2 : opInfo 0xC2#8 = ⟨.imm, 2#8, false⟩ := rfl
@[simp] theorem opInfo_C3 : opInfo 0xC3#8 = ⟨.izx, 8#8, false⟩ := rfl
@[simp] theorem opInfo_C4 : opInfo 0xC4#8 = ⟨.zp0, 3#8, false⟩ := rfl
@[simp] theorem opInfo_C5 : opInfo 0xC5#8 = ⟨.zp0, 3#8, false⟩ := rfl
@[simp] theorem opInfo_C6 : opInfo 0xC6#8 = ⟨.zp0, 5#8, false⟩ := rfl
@[simp] theorem opInfo_C7 : opInfo 0xC7#8 = ⟨.zp0, 5#8, false⟩ := rfl
@[simp] theorem opInfo_C8 : opInfo 0xC8#8 = ⟨.imp, 2#8, false⟩ := rfl
@[simp] theorem opInfo_C9 : opInfo 0xC9#8 = ⟨.imm, 2#8, false⟩ := rfl
@[simp] theorem opInfo_CA : opInfo 0xCA#8 = ⟨.imp, 2#8, false⟩ := rfl
@[simp] theorem opInfo_CB : opInfo 0xCB#8 = ⟨.imm, 2#8, false⟩ := rfl
@[simp] theorem opInfo_CC : opInfo 0xCC#8 = ⟨.abs, 4#8, false⟩ := rfl
@[simp] theorem opInfo_CD : opInfo 0xCD#8 = ⟨.abs, 4#8, false⟩ := rfl
@[simp] theorem opInfo_CE : opInfo 0xCE#8 = ⟨.abs, 6#8, false⟩ := rfl
@[simp] theorem opInfo_CF : opInfo 0xCF#8 = ⟨.abs, 6#8, false⟩ := rfl
@[simp] theorem opInfo_D0 : opInfo 0xD0#8 = ⟨.rel, 2#8, false⟩ := rfl
@[simp] theorem opInfo_D1 : opInfo 0xD1#8 = ⟨.izy, 5#8, true⟩ := rfl
@[simp] theorem opInfo_D2 : opInfo 0xD2#8 = ⟨.imp, 2#8, false⟩ := rfl
@[simp] theorem opInfo_D3 : opInfo 0xD3#8 = ⟨.izy, 8#8, false⟩ := rfl
@[simp] theorem opInfo_D4 : opInfo 0xD4#8 = ⟨.zpx, 4#8, false⟩ := rfl
@[simp] theorem opInfo_D5 : opInfo 0xD5#8 = ⟨.zpx, 4#8, false⟩ := rfl
@[simp] theorem opInfo_D6 : opInfo 0xD6#8 = ⟨.zpx, 6#8, false⟩ := rfl
@[simp] theorem opInfo_D7 : opInfo 0xD7#8 = ⟨.zpx, 6#8, false⟩ := rfl
@[simp] theorem opInfo_D8 : opInfo 0xD8#8 = ⟨.imp, 2#8, false⟩ := rfl
@[simp] theorem opInfo_D9 : opInfo 0xD9#8 = ⟨.aby, 4#8, true⟩ := rfl
@[simp] theorem opInfo_DA : opInfo 0xDA#8 = ⟨.imp, 2#8, false⟩ := rfl
@[simp] theorem opInfo_DB : opInfo 0xDB#8 = ⟨.aby, 7#8, false⟩ := rfl
@[simp] theorem opInfo_DC : opInfo 0xDC#8 = ⟨.abx, 4#8, true⟩ := rfl
@[simp] theorem opInfo_DD : opInfo 0xDD#8 = ⟨.abx, 4#8, true⟩ := rfl
@[simp] theorem opInfo_DE : opInfo 0xDE#8 = ⟨.abx, 7#8, false⟩ := rfl
@[simp] theorem opInfo_DF : opInfo 0xDF#8 = ⟨.abx, 7#8, false⟩ := rfl
@[simp] theorem opInfo_E0 : opInfo 0xE0#8 = ⟨.imm, 2#8, false⟩ := rfl
@[simp] theorem opInfo_E1 : opInfo 0xE1#8 = ⟨.izx, 6#8, false⟩ := rfl
@[simp] theorem opInfo_E2 : opInfo 0xE2#8 = ⟨.imm, 2#8, false⟩ := rfl
@[simp] theorem opInfo_E3 : opInfo 0xE3#8 = ⟨.izx, 8#8, false⟩ := rfl
@[simp] theorem opInfo_E4 : opInfo 0xE4#8 = ⟨.zp0, 3#8, false⟩ := rfl
@[simp] theorem opInfo_E5 : opInfo 0xE5#8 = ⟨.zp0, 3#8, false⟩ := rfl
@[simp] theorem opInfo_E6 : opInfo 0xE6#8 = ⟨.zp0, 5#8, false⟩ := rfl
@[simp] theorem opInfo_E7 : opInfo 0xE7#8 = ⟨.zp0, 5#8, false⟩ := rfl
@[simp] theorem opInfo_E8 : opInfo 0xE8#8 = ⟨.imp, 2#8, false⟩ := rfl
@[simp] theorem opInfo_E9 : opInfo 0xE9#8 = ⟨.imm, 2#8, false⟩ := rfl
@[simp] theorem opInfo_EA : opInfo 0xEA#8 = ⟨.imp, 2#8, false⟩ := rfl
@[simp] theorem opInfo_EB : opInfo 0xEB#8 = ⟨.imm, 2#8, false⟩ := rfl
@[simp] theorem opInfo_EC : opInfo 0xEC#8 = ⟨.abs, 4#8, false⟩ := rfl
@[simp] theorem opInfo_ED : opInfo 0xED#8 = ⟨.abs, 4#8, false⟩ := rfl
@[simp] theorem opInfo_EE : opInfo 0xEE#8 = ⟨.abs, 6#8, false⟩ := rfl
@[simp] theorem opInfo_EF : opInfo 0xEF#8 = ⟨.abs, 6#8, false⟩ := rfl
@[simp] theorem opInfo_F0 : opInfo 0xF0#8 = ⟨.rel, 2#8, false⟩ := rfl
@[simp] theorem opInfo_F1 : opInfo 0xF1#8 = ⟨.izy, 5#8, true⟩ := rfl
@[simp] theorem opInfo_F2 : opInfo 0xF2#8 = ⟨.imp, 2#8, false⟩ := rfl
@[simp] theorem opInfo_F3 : opInfo 0xF3#8 = ⟨.izy, 8#8, false⟩ := rfl
@[simp] theorem opInfo_F4 : opInfo 0xF4#8 = ⟨.zpx, 4#8, false⟩ := rfl
@[simp] theorem opInfo_F5 : opInfo 0xF5#8 = ⟨.zpx, 4#8, false⟩ := rfl
@[simp] theorem opInfo_F6 : opInfo 0xF6#8 = ⟨.zpx, 6#8, false⟩ := rfl
@[simp] theorem opInfo_F7 : opInfo 0xF7#8 = ⟨.zpx, 6#8, false⟩ := rfl
@[simp] theorem opInfo_F8 : opInfo 0xF8#8 = ⟨.imp, 2#8, false⟩ := rfl
@[simp] theorem opInfo_F9 : opInfo 0xF9#8 = ⟨.aby, 4#8, true⟩ := rfl
@[simp] theorem opInfo_FA : opInfo 0xFA#8 = ⟨.imp, 2#8, false⟩ := rfl
@[simp] theorem opInfo_FB : opInfo 0xFB#8 = ⟨.aby, 7#8, false⟩ := rfl
@[simp] theorem opInfo_FC : opInfo 0xFC#8 = ⟨.abx, 4#8, true⟩ := rfl
@[simp] theorem opInfo_FD : opInfo 0xFD#8 = ⟨.abx, 4#8, true⟩ := rfl
@[simp] theorem opInfo_FE : opInfo 0xFE#8 = ⟨.abx, 7#8, false⟩ := rfl
@[simp] theorem opInfo_FF : opInfo 0xFF#8 = ⟨.abx, 7#8, false⟩ := rfl

@[simp] theorem decodeBytes_00 (b c : Byte) : decodeBytes 0x00#8 b c = .brk := rfl
@[simp] theorem decodeBytes_01 (b c : Byte) : decodeBytes 0x01#8 b c = .oraIzx b := rfl
@[simp] theorem decodeBytes_02 (b c : Byte) : decodeBytes 0x02#8 b c = .kil02 := rfl
@[simp] theorem decodeBytes_03 (b c : Byte) : decodeBytes 0x03#8 b c = .sloIzx b := rfl
@[simp] theorem decodeBytes_04 (b c : Byte) : decodeBytes 0x04#8 b c = .nopZp004 b := rfl
@[simp] theorem decodeBytes_05 (b c : Byte) : decodeBytes 0x05#8 b c = .oraZp0 b := rfl
@[simp] theorem decodeBytes_06 (b c : Byte) : decodeBytes 0x06#8 b c = .aslZp0 b := rfl
@[simp] theorem decodeBytes_07 (b c : Byte) : decodeBytes 0x07#8 b c = .sloZp0 b := rfl
@[simp] theorem decodeBytes_08 (b c : Byte) : decodeBytes 0x08#8 b c = .php := rfl
@[simp] theorem decodeBytes_09 (b c : Byte) : decodeBytes 0x09#8 b c = .oraImm b := rfl
@[simp] theorem decodeBytes_0A (b c : Byte) : decodeBytes 0x0A#8 b c = .aslAcc := rfl
@[simp] theorem decodeBytes_0B (b c : Byte) : decodeBytes 0x0B#8 b c = .ancImm0B b := rfl
@[simp] theorem decodeBytes_0C (b c : Byte) : decodeBytes 0x0C#8 b c = .nopAbs0C (wordOf b c) := rfl
@[simp] theorem decodeBytes_0D (b c : Byte) : decodeBytes 0x0D#8 b c = .oraAbs (wordOf b c) := rfl
@[simp] theorem decodeBytes_0E (b c : Byte) : decodeBytes 0x0E#8 b c = .aslAbs (wordOf b c) := rfl
@[simp] theorem decodeBytes_0F (b c : Byte) : decodeBytes 0x0F#8 b c = .sloAbs (wordOf b c) := rfl
@[simp] theorem decodeBytes_10 (b c : Byte) : decodeBytes 0x10#8 b c = .bpl b := rfl
@[simp] theorem decodeBytes_11 (b c : Byte) : decodeBytes 0x11#8 b c = .oraIzy b := rfl
@[simp] theorem decodeBytes_12 (b c : Byte) : decodeBytes 0x12#8 b c = .kil12 := rfl
@[simp] theorem decodeBytes_13 (b c : Byte) : decodeBytes 0x13#8 b c = .sloIzy b := rfl
@[simp] theorem decodeBytes_14 (b c : Byte) : decodeBytes 0x14#8 b c = .nopZpx14 b := rfl
@[simp] theorem decodeBytes_15 (b c : Byte) : decodeBytes 0x15#8 b c = .oraZpx b := rfl
@[simp] theorem decodeBytes_16 (b c : Byte) : decodeBytes 0x16#8 b c = .aslZpx b := rfl
@[simp] theorem decodeBytes_17 (b c : Byte) : decodeBytes 0x17#8 b c = .sloZpx b := rfl
@[simp] theorem decodeBytes_18 (b c : Byte) : decodeBytes 0x18#8 b c = .clc := rfl
@[simp] theorem decodeBytes_19 (b c : Byte) : decodeBytes 0x19#8 b c = .oraAby (wordOf b c) := rfl
@[simp] theorem decodeBytes_1A (b c : Byte) : decodeBytes 0x1A#8 b c = .nopImp1A := rfl
@[simp] theorem decodeBytes_1B (b c : Byte) : decodeBytes 0x1B#8 b c = .sloAby (wordOf b c) := rfl
@[simp] theorem decodeBytes_1C (b c : Byte) : decodeBytes 0x1C#8 b c = .nopAbx1C (wordOf b c) := rfl
@[simp] theorem decodeBytes_1D (b c : Byte) : decodeBytes 0x1D#8 b c = .oraAbx (wordOf b c) := rfl
@[simp] theorem decodeBytes_1E (b c : Byte) : decodeBytes 0x1E#8 b c = .aslAbx (wordOf b c) := rfl
@[simp] theorem decodeBytes_1F (b c : Byte) : decodeBytes 0x1F#8 b c = .sloAbx (wordOf b c) := rfl
@[simp] theorem decodeBytes_20 (b c : Byte) : decodeBytes 0x20#8 b c = .jsrAbs (wordOf b c) := rfl
@[simp] theorem decodeBytes_21 (b c : Byte) : decodeBytes 0x21#8 b c = .andIzx b := rfl
@[simp] theorem decodeBytes_22 (b c : Byte) : decodeBytes 0x22#8 b c = .kil22 := rfl
@[simp] theorem decodeBytes_23 (b c : Byte) : decodeBytes 0x23#8 b c = .rlaIzx b := rfl
@[simp] theorem decodeBytes_24 (b c : Byte) : decodeBytes 0x24#8 b c = .bitZp0 b := rfl
@[simp] theorem decodeBytes_25 (b c : Byte) : decodeBytes 0x25#8 b c = .andZp0 b := rfl
@[simp] theorem decodeBytes_26 (b c : Byte) : decodeBytes 0x26#8 b c = .rolZp0 b := rfl
@[simp] theorem decodeBytes_27 (b c : Byte) : decodeBytes 0x27#8 b c = .rlaZp0 b := rfl
@[simp] theorem decodeBytes_28 (b c : Byte) : decodeBytes 0x28#8 b c = .plp := rfl
@[simp] theorem decodeBytes_29 (b c : Byte) : decodeBytes 0x29#8 b c = .andImm b := rfl
@[simp] theorem decodeBytes_2A (b c : Byte) : decodeBytes 0x2A#8 b c = .rolAcc := rfl
@[simp] theorem decodeBytes_2B (b c : Byte) : decodeBytes 0x2B#8 b c = .ancImm2B b := rfl
@[simp] theorem decodeBytes_2C (b c : Byte) : decodeBytes 0x2C#8 b c = .bitAbs (wordOf b c) := rfl
@[simp] theorem decodeBytes_2D (b c : Byte) : decodeBytes 0x2D#8 b c = .andAbs (wordOf b c) := rfl
@[simp] theorem decodeBytes_2E (b c : Byte) : decodeBytes 0x2E#8 b c = .rolAbs (wordOf b c) := rfl
@[simp] theorem decodeBytes_2F (b c : Byte) : decodeBytes 0x2F#8 b c = .rlaAbs (wordOf b c) := rfl
@[simp] theorem decodeBytes_30 (b c : Byte) : decodeBytes 0x30#8 b c = .bmi b := rfl
@[simp] theorem decodeBytes_31 (b c : Byte) : decodeBytes 0x31#8 b c = .andIzy b := rfl
@[simp] theorem decodeBytes_32 (b c : Byte) : decodeBytes 0x32#8 b c = .kil32 := rfl
@[simp] theorem decodeBytes_33 (b c : Byte) : decodeBytes 0x33#8 b c = .rlaIzy b := rfl
@[simp] theorem decodeBytes_34 (b c : Byte) : decodeBytes 0x34#8 b c = .nopZpx34 b := rfl
@[simp] theorem decodeBytes_35 (b c : Byte) : decodeBytes 0x35#8 b c = .andZpx b := rfl
@[simp] theorem decodeBytes_36 (b c : Byte) : decodeBytes 0x36#8 b c = .rolZpx b := rfl
@[simp] theorem decodeBytes_37 (b c : Byte) : decodeBytes 0x37#8 b c = .rlaZpx b := rfl
@[simp] theorem decodeBytes_38 (b c : Byte) : decodeBytes 0x38#8 b c = .sec := rfl
@[simp] theorem decodeBytes_39 (b c : Byte) : decodeBytes 0x39#8 b c = .andAby (wordOf b c) := rfl
@[simp] theorem decodeBytes_3A (b c : Byte) : decodeBytes 0x3A#8 b c = .nopImp3A := rfl
@[simp] theorem decodeBytes_3B (b c : Byte) : decodeBytes 0x3B#8 b c = .rlaAby (wordOf b c) := rfl
@[simp] theorem decodeBytes_3C (b c : Byte) : decodeBytes 0x3C#8 b c = .nopAbx3C (wordOf b c) := rfl
@[simp] theorem decodeBytes_3D (b c : Byte) : decodeBytes 0x3D#8 b c = .andAbx (wordOf b c) := rfl
@[simp] theorem decodeBytes_3E (b c : Byte) : decodeBytes 0x3E#8 b c = .rolAbx (wordOf b c) := rfl
@[simp] theorem decodeBytes_3F (b c : Byte) : decodeBytes 0x3F#8 b c = .rlaAbx (wordOf b c) := rfl
@[simp] theorem decodeBytes_40 (b c : Byte) : decodeBytes 0x40#8 b c = .rti := rfl
@[simp] theorem decodeBytes_41 (b c : Byte) : decodeBytes 0x41#8 b c = .eorIzx b := rfl
@[simp] theorem decodeBytes_42 (b c : Byte) : decodeBytes 0x42#8 b c = .kil42 := rfl
@[simp] theorem decodeBytes_43 (b c : Byte) : decodeBytes 0x43#8 b c = .sreIzx b := rfl
@[simp] theorem decodeBytes_44 (b c : Byte) : decodeBytes 0x44#8 b c = .nopZp044 b := rfl
@[simp] theorem decodeBytes_45 (b c : Byte) : decodeBytes 0x45#8 b c = .eorZp0 b := rfl
@[simp] theorem decodeBytes_46 (b c : Byte) : decodeBytes 0x46#8 b c = .lsrZp0 b := rfl
@[simp] theorem decodeBytes_47 (b c : Byte) : decodeBytes 0x47#8 b c = .sreZp0 b := rfl
@[simp] theorem decodeBytes_48 (b c : Byte) : decodeBytes 0x48#8 b c = .pha := rfl
@[simp] theorem decodeBytes_49 (b c : Byte) : decodeBytes 0x49#8 b c = .eorImm b := rfl
@[simp] theorem decodeBytes_4A (b c : Byte) : decodeBytes 0x4A#8 b c = .lsrAcc := rfl
@[simp] theorem decodeBytes_4B (b c : Byte) : decodeBytes 0x4B#8 b c = .alrImm b := rfl
@[simp] theorem decodeBytes_4C (b c : Byte) : decodeBytes 0x4C#8 b c = .jmpAbs (wordOf b c) := rfl
@[simp] theorem decodeBytes_4D (b c : Byte) : decodeBytes 0x4D#8 b c = .eorAbs (wordOf b c) := rfl
@[simp] theorem decodeBytes_4E (b c : Byte) : decodeBytes 0x4E#8 b c = .lsrAbs (wordOf b c) := rfl
@[simp] theorem decodeBytes_4F (b c : Byte) : decodeBytes 0x4F#8 b c = .sreAbs (wordOf b c) := rfl
@[simp] theorem decodeBytes_50 (b c : Byte) : decodeBytes 0x50#8 b c = .bvc b := rfl
@[simp] theorem decodeBytes_51 (b c : Byte) : decodeBytes 0x51#8 b c = .eorIzy b := rfl
@[simp] theorem decodeBytes_52 (b c : Byte) : decodeBytes 0x52#8 b c = .kil52 := rfl
@[simp] theorem decodeBytes_53 (b c : Byte) : decodeBytes 0x53#8 b c = .sreIzy b := rfl
@[simp] theorem decodeBytes_54 (b c : Byte) : decodeBytes 0x54#8 b c = .nopZpx54 b := rfl
@[simp] theorem decodeBytes_55 (b c : Byte) : decodeBytes 0x55#8 b c = .eorZpx b := rfl
@[simp] theorem decodeBytes_56 (b c : Byte) : decodeBytes 0x56#8 b c = .lsrZpx b := rfl
@[simp] theorem decodeBytes_57 (b c : Byte) : decodeBytes 0x57#8 b c = .sreZpx b := rfl
@[simp] theorem decodeBytes_58 (b c : Byte) : decodeBytes 0x58#8 b c = .cli := rfl
@[simp] theorem decodeBytes_59 (b c : Byte) : decodeBytes 0x59#8 b c = .eorAby (wordOf b c) := rfl
@[simp] theorem decodeBytes_5A (b c : Byte) : decodeBytes 0x5A#8 b c = .nopImp5A := rfl
@[simp] theorem decodeBytes_5B (b c : Byte) : decodeBytes 0x5B#8 b c = .sreAby (wordOf b c) := rfl
@[simp] theorem decodeBytes_5C (b c : Byte) : decodeBytes 0x5C#8 b c = .nopAbx5C (wordOf b c) := rfl
@[simp] theorem decodeBytes_5D (b c : Byte) : decodeBytes 0x5D#8 b c = .eorAbx (wordOf b c) := rfl
@[simp] theorem decodeBytes_5E (b c : Byte) : decodeBytes 0x5E#8 b c = .lsrAbx (wordOf b c) := rfl
@[simp] theorem decodeBytes_5F (b c : Byte) : decodeBytes 0x5F#8 b c = .sreAbx (wordOf b c) := rfl
@[simp] theorem decodeBytes_60 (b c : Byte) : decodeBytes 0x60#8 b c = .rts := rfl
@[simp] theorem decodeBytes_61 (b c : Byte) : decodeBytes 0x61#8 b c = .adcIzx b := rfl
@[simp] theorem decodeBytes_62 (b c : Byte) : decodeBytes 0x62#8 b c = .kil62 := rfl
@[simp] theorem decodeBytes_63 (b c : Byte) : decodeBytes 0x63#8 b c = .rraIzx b := rfl
@[simp] theorem decodeBytes_64 (b c : Byte) : decodeBytes 0x64#8 b c = .nopZp064 b := rfl
@[simp] theorem decodeBytes_65 (b c : Byte) : decodeBytes 0x65#8 b c = .adcZp0 b := rfl
@[simp] theorem decodeBytes_66 (b c : Byte) : decodeBytes 0x66#8 b c = .rorZp0 b := rfl
@[simp] theorem decodeBytes_67 (b c : Byte) : decodeBytes 0x67#8 b c = .rraZp0 b := rfl
@[simp] theorem decodeBytes_68 (b c : Byte) : decodeBytes 0x68#8 b c = .pla := rfl
@[simp] theorem decodeBytes_69 (b c : Byte) : decodeBytes 0x69#8 b c = .adcImm b := rfl
@[simp] theorem decodeBytes_6A (b c : Byte) : decodeBytes 0x6A#8 b c = .rorAcc := rfl
@[simp] theorem decodeBytes_6B (b c : Byte) : decodeBytes 0x6B#8 b c = .arrImm b := rfl
@[simp] theorem decodeBytes_6C (b c : Byte) : decodeBytes 0x6C#8 b c = .jmpInd (wordOf b c) := rfl
@[simp] theorem decodeBytes_6D (b c : Byte) : decodeBytes 0x6D#8 b c = .adcAbs (wordOf b c) := rfl
@[simp] theorem decodeBytes_6E (b c : Byte) : decodeBytes 0x6E#8 b c = .rorAbs (wordOf b c) := rfl
@[simp] theorem decodeBytes_6F (b c : Byte) : decodeBytes 0x6F#8 b c = .rraAbs (wordOf b c) := rfl
@[simp] theorem decodeBytes_70 (b c : Byte) : decodeBytes 0x70#8 b c = .bvs b := rfl
@[simp] theorem decodeBytes_71 (b c : Byte) : decodeBytes 0x71#8 b c = .adcIzy b := rfl
@[simp] theorem decodeBytes_72 (b c : Byte) : decodeBytes 0x72#8 b c = .kil72 := rfl
@[simp] theorem decodeBytes_73 (b c : Byte) : decodeBytes 0x73#8 b c = .rraIzy b := rfl
@[simp] theorem decodeBytes_74 (b c : Byte) : decodeBytes 0x74#8 b c = .nopZpx74 b := rfl
@[simp] theorem decodeBytes_75 (b c : Byte) : decodeBytes 0x75#8 b c = .adcZpx b := rfl
@[simp] theorem decodeBytes_76 (b c : Byte) : decodeBytes 0x76#8 b c = .rorZpx b := rfl
@[simp] theorem decodeBytes_77 (b c : Byte) : decodeBytes 0x77#8 b c = .rraZpx b := rfl
@[simp] theorem decodeBytes_78 (b c : Byte) : decodeBytes 0x78#8 b c = .sei := rfl
@[simp] theorem decodeBytes_79 (b c : Byte) : decodeBytes 0x79#8 b c = .adcAby (wordOf b c) := rfl
@[simp] theorem decodeBytes_7A (b c : Byte) : decodeBytes 0x7A#8 b c = .nopImp7A := rfl
@[simp] theorem decodeBytes_7B (b c : Byte) : decodeBytes 0x7B#8 b c = .rraAby (wordOf b c) := rfl
@[simp] theorem decodeBytes_7C (b c : Byte) : decodeBytes 0x7C#8 b c = .nopAbx7C (wordOf b c) := rfl
@[simp] theorem decodeBytes_7D (b c : Byte) : decodeBytes 0x7D#8 b c = .adcAbx (wordOf b c) := rfl
@[simp] theorem decodeBytes_7E (b c : Byte) : decodeBytes 0x7E#8 b c = .rorAbx (wordOf b c) := rfl
@[simp] theorem decodeBytes_7F (b c : Byte) : decodeBytes 0x7F#8 b c = .rraAbx (wordOf b c) := rfl
@[simp] theorem decodeBytes_80 (b c : Byte) : decodeBytes 0x80#8 b c = .nopImm80 b := rfl
@[simp] theorem decodeBytes_81 (b c : Byte) : decodeBytes 0x81#8 b c = .staIzx b := rfl
@[simp] theorem decodeBytes_82 (b c : Byte) : decodeBytes 0x82#8 b c = .nopImm82 b := rfl
@[simp] theorem decodeBytes_83 (b c : Byte) : decodeBytes 0x83#8 b c = .saxIzx b := rfl
@[simp] theorem decodeBytes_84 (b c : Byte) : decodeBytes 0x84#8 b c = .styZp0 b := rfl
@[simp] theorem decodeBytes_85 (b c : Byte) : decodeBytes 0x85#8 b c = .staZp0 b := rfl
@[simp] theorem decodeBytes_86 (b c : Byte) : decodeBytes 0x86#8 b c = .stxZp0 b := rfl
@[simp] theorem decodeBytes_87 (b c : Byte) : decodeBytes 0x87#8 b c = .saxZp0 b := rfl
@[simp] theorem decodeBytes_88 (b c : Byte) : decodeBytes 0x88#8 b c = .dey := rfl
@[simp] theorem decodeBytes_89 (b c : Byte) : decodeBytes 0x89#8 b c = .nopImm89 b := rfl
@[simp] theorem decodeBytes_8A (b c : Byte) : decodeBytes 0x8A#8 b c = .txa := rfl
@[simp] theorem decodeBytes_8B (b c : Byte) : decodeBytes 0x8B#8 b c = .xaaImm b := rfl
@[simp] theorem decodeBytes_8C (b c : Byte) : decodeBytes 0x8C#8 b c = .styAbs (wordOf b c) := rfl
@[simp] theorem decodeBytes_8D (b c : Byte) : decodeBytes 0x8D#8 b c = .staAbs (wordOf b c) := rfl
@[simp] theorem decodeBytes_8E (b c : Byte) : decodeBytes 0x8E#8 b c = .stxAbs (wordOf b c) := rfl
@[simp] theorem decodeBytes_8F (b c : Byte) : decodeBytes 0x8F#8 b c = .saxAbs (wordOf b c) := rfl
@[simp] theorem decodeBytes_90 (b c : Byte) : decodeBytes 0x90#8 b c = .bcc b := rfl
@[simp] theorem decodeBytes_91 (b c : Byte) : decodeBytes 0x91#8 b c = .staIzy b := rfl
@[simp] theorem decodeBytes_92 (b c : Byte) : decodeBytes 0x92#8 b c = .kil92 := rfl
@[simp] theorem decodeBytes_93 (b c : Byte) : decodeBytes 0x93#8 b c = .ahxIzy b := rfl
@[simp] theorem decodeBytes_94 (b c : Byte) : decodeBytes 0x94#8 b c = .styZpx b := rfl
@[simp] theorem decodeBytes_95 (b c : Byte) : decodeBytes 0x95#8 b c = .staZpx b := rfl
@[simp] theorem decodeBytes_96 (b c : Byte) : decodeBytes 0x96#8 b c = .stxZpy b := rfl
@[simp] theorem decodeBytes_97 (b c : Byte) : decodeBytes 0x97#8 b c = .saxZpy b := rfl
@[simp] theorem decodeBytes_98 (b c : Byte) : decodeBytes 0x98#8 b c = .tya := rfl
@[simp] theorem decodeBytes_99 (b c : Byte) : decodeBytes 0x99#8 b c = .staAby (wordOf b c) := rfl
@[simp] theorem decodeBytes_9A (b c : Byte) : decodeBytes 0x9A#8 b c = .txs := rfl
@[simp] theorem decodeBytes_9B (b c : Byte) : decodeBytes 0x9B#8 b c = .tasAby (wordOf b c) := rfl
@[simp] theorem decodeBytes_9C (b c : Byte) : decodeBytes 0x9C#8 b c = .shyAbx (wordOf b c) := rfl
@[simp] theorem decodeBytes_9D (b c : Byte) : decodeBytes 0x9D#8 b c = .staAbx (wordOf b c) := rfl
@[simp] theorem decodeBytes_9E (b c : Byte) : decodeBytes 0x9E#8 b c = .shxAby (wordOf b c) := rfl
@[simp] theorem decodeBytes_9F (b c : Byte) : decodeBytes 0x9F#8 b c = .ahxAby (wordOf b c) := rfl
@[simp] theorem decodeBytes_A0 (b c : Byte) : decodeBytes 0xA0#8 b c = .ldyImm b := rfl
@[simp] theorem decodeBytes_A1 (b c : Byte) : decodeBytes 0xA1#8 b c = .ldaIzx b := rfl
@[simp] theorem decodeBytes_A2 (b c : Byte) : decodeBytes 0xA2#8 b c = .ldxImm b := rfl
@[simp] theorem decodeBytes_A3 (b c : Byte) : decodeBytes 0xA3#8 b c = .laxIzx b := rfl
@[simp] theorem decodeBytes_A4 (b c : Byte) : decodeBytes 0xA4#8 b c = .ldyZp0 b := rfl
@[simp] theorem decodeBytes_A5 (b c : Byte) : decodeBytes 0xA5#8 b c = .ldaZp0 b := rfl
@[simp] theorem decodeBytes_A6 (b c : Byte) : decodeBytes 0xA6#8 b c = .ldxZp0 b := rfl
@[simp] theorem decodeBytes_A7 (b c : Byte) : decodeBytes 0xA7#8 b c = .laxZp0 b := rfl
@[simp] theorem decodeBytes_A8 (b c : Byte) : decodeBytes 0xA8#8 b c = .tay := rfl
@[simp] theorem decodeBytes_A9 (b c : Byte) : decodeBytes 0xA9#8 b c = .ldaImm b := rfl
@[simp] theorem decodeBytes_AA (b c : Byte) : decodeBytes 0xAA#8 b c = .tax := rfl
@[simp] theorem decodeBytes_AB (b c : Byte) : decodeBytes 0xAB#8 b c = .laxImm b := rfl
@[simp] theorem decodeBytes_AC (b c : Byte) : decodeBytes 0xAC#8 b c = .ldyAbs (wordOf b c) := rfl
@[simp] theorem decodeBytes_AD (b c : Byte) : decodeBytes 0xAD#8 b c = .ldaAbs (wordOf b c) := rfl
@[simp] theorem decodeBytes_AE (b c : Byte) : decodeBytes 0xAE#8 b c = .ldxAbs (wordOf b c) := rfl
@[simp] theorem decodeBytes_AF (b c : Byte) : decodeBytes 0xAF#8 b c = .laxAbs (wordOf b c) := rfl
@[simp] theorem decodeBytes_B0 (b c : Byte) : decodeBytes 0xB0#8 b c = .bcs b := rfl
@[simp] theorem decodeBytes_B1 (b c : Byte) : decodeBytes 0xB1#8 b c = .ldaIzy b := rfl
@[simp] theorem decodeBytes_B2 (b c : Byte) : decodeBytes 0xB2#8 b c = .kilB2 := rfl
@[simp] theorem decodeBytes_B3 (b c : Byte) : decodeBytes 0xB3#8 b c = .laxIzy b := rfl
@[simp] theorem decodeBytes_B4 (b c : Byte) : decodeBytes 0xB4#8 b c = .ldyZpx b := rfl
@[simp] theorem decodeBytes_B5 (b c : Byte) : decodeBytes 0xB5#8 b c = .ldaZpx b := rfl
@[simp] theorem decodeBytes_B6 (b c : Byte) : decodeBytes 0xB6#8 b c = .ldxZpy b := rfl
@[simp] theorem decodeBytes_B7 (b c : Byte) : decodeBytes 0xB7#8 b c = .laxZpy b := rfl
@[simp] theorem decodeBytes_B8 (b c : Byte) : decodeBytes 0xB8#8 b c = .clv := rfl
@[simp] theorem decodeBytes_B9 (b c : Byte) : decodeBytes 0xB9#8 b c = .ldaAby (wordOf b c) := rfl
@[simp] theorem decodeBytes_BA (b c : Byte) : decodeBytes 0xBA#8 b c = .tsx := rfl
@[simp] theorem decodeBytes_BB (b c : Byte) : decodeBytes 0xBB#8 b c = .lasAby (wordOf b c) := rfl
@[simp] theorem decodeBytes_BC (b c : Byte) : decodeBytes 0xBC#8 b c = .ldyAbx (wordOf b c) := rfl
@[simp] theorem decodeBytes_BD (b c : Byte) : decodeBytes 0xBD#8 b c = .ldaAbx (wordOf b c) := rfl
@[simp] theorem decodeBytes_BE (b c : Byte) : decodeBytes 0xBE#8 b c = .ldxAby (wordOf b c) := rfl
@[simp] theorem decodeBytes_BF (b c : Byte) : decodeBytes 0xBF#8 b c = .laxAby (wordOf b c) := rfl
@[simp] theorem decodeBytes_C0 (b c : Byte) : decodeBytes 0xC0#8 b c = .cpyImm b := rfl
@[simp] theorem decodeBytes_C1 (b c : Byte) : decodeBytes 0xC1#8 b c = .cmpIzx b := rfl
@[simp] theorem decodeBytes_C2 (b c : Byte) : decodeBytes 0xC2#8 b c = .nopImmC2 b := rfl
@[simp] theorem decodeBytes_C3 (b c : Byte) : decodeBytes 0xC3#8 b c = .dcpIzx b := rfl
@[simp] theorem decodeBytes_C4 (b c : Byte) : decodeBytes 0xC4#8 b c = .cpyZp0 b := rfl
@[simp] theorem decodeBytes_C5 (b c : Byte) : decodeBytes 0xC5#8 b c = .cmpZp0 b := rfl
@[simp] theorem decodeBytes_C6 (b c : Byte) : decodeBytes 0xC6#8 b c = .decZp0 b := rfl
@[simp] theorem decodeBytes_C7 (b c : Byte) : decodeBytes 0xC7#8 b c = .dcpZp0 b := rfl
@[simp] theorem decodeBytes_C8 (b c : Byte) : decodeBytes 0xC8#8 b c = .iny := rfl
@[simp] theorem decodeBytes_C9 (b c : Byte) : decodeBytes 0xC9#8 b c = .cmpImm b := rfl
@[simp] theorem decodeBytes_CA (b c : Byte) : decodeBytes 0xCA#8 b c = .dex := rfl
@[simp] theorem decodeBytes_CB (b c : Byte) : decodeBytes 0xCB#8 b c = .axsImm b := rfl
@[simp] theorem decodeBytes_CC (b c : Byte) : decodeBytes 0xCC#8 b c = .cpyAbs (wordOf b c) := rfl
@[simp] theorem decodeBytes_CD (b c : Byte) : decodeBytes 0xCD#8 b c = .cmpAbs (wordOf b c) := rfl
@[simp] theorem decodeBytes_CE (b c : Byte) : decodeBytes 0xCE#8 b c = .decAbs (wordOf b c) := rfl
@[simp] theorem decodeBytes_CF (b c : Byte) : decodeBytes 0xCF#8 b c = .dcpAbs (wordOf b c) := rfl
@[simp] theorem decodeBytes_D0 (b c : Byte) : decodeBytes 0xD0#8 b c = .bne b := rfl
@[simp] theorem decodeBytes_D1 (b c : Byte) : decodeBytes 0xD1#8 b c = .cmpIzy b := rfl
@[simp] theorem decodeBytes_D2 (b c : Byte) : decodeBytes 0xD2#8 b c = .kilD2 := rfl
@[simp] theorem decodeBytes_D3 (b c : Byte) : decodeBytes 0xD3#8 b c = .dcpIzy b := rfl
@[simp] theorem decodeBytes_D4 (b c : Byte) : decodeBytes 0xD4#8 b c = .nopZpxD4 b := rfl
@[simp] theorem decodeBytes_D5 (b c : Byte) : decodeBytes 0xD5#8 b c = .cmpZpx b := rfl
@[simp] theorem decodeBytes_D6 (b c : Byte) : decodeBytes 0xD6#8 b c = .decZpx b := rfl
@[simp] theorem decodeBytes_D7 (b c : Byte) : decodeBytes 0xD7#8 b c = .dcpZpx b := rfl
@[simp] theorem decodeBytes_D8 (b c : Byte) : decodeBytes 0xD8#8 b c = .cld := rfl
@[simp] theorem decodeBytes_D9 (b c : Byte) : decodeBytes 0xD9#8 b c = .cmpAby (wordOf b c) := rfl
@[simp] theorem decodeBytes_DA (b c : Byte) : decodeBytes 0xDA#8 b c = .nopImpDA := rfl
@[simp] theorem decodeBytes_DB (b c : Byte) : decodeBytes 0xDB#8 b c = .dcpAby (wordOf b c) := rfl
@[simp] theorem decodeBytes_DC (b c : Byte) : decodeBytes 0xDC#8 b c = .nopAbxDC (wordOf b c) := rfl
@[simp] theorem decodeBytes_DD (b c : Byte) : decodeBytes 0xDD#8 b c = .cmpAbx (wordOf b c) := rfl
@[simp] theorem decodeBytes_DE (b c : Byte) : decodeBytes 0xDE#8 b c = .decAbx (wordOf b c) := rfl
@[simp] theorem decodeBytes_DF (b c : Byte) : decodeBytes 0xDF#8 b c = .dcpAbx (wordOf b c) := rfl
@[simp] theorem decodeBytes_E0 (b c : Byte) : decodeBytes 0xE0#8 b c = .cpxImm b := rfl
@[simp] theorem decodeBytes_E1 (b c : Byte) : decodeBytes 0xE1#8 b c = .sbcIzx b := rfl
@[simp] theorem decodeBytes_E2 (b c : Byte) : decodeBytes 0xE2#8 b c = .nopImmE2 b := rfl
@[simp] theorem decodeBytes_E3 (b c : Byte) : decodeBytes 0xE3#8 b c = .iscIzx b := rfl
@[simp] theorem decodeBytes_E4 (b c : Byte) : decodeBytes 0xE4#8 b c = .cpxZp0 b := rfl
@[simp] theorem decodeBytes_E5 (b c : Byte) : decodeBytes 0xE5#8 b c = .sbcZp0 b := rfl
@[simp] theorem decodeBytes_E6 (b c : Byte) : decodeBytes 0xE6#8 b c = .incZp0 b := rfl
@[simp] theorem decodeBytes_E7 (b c : Byte) : decodeBytes 0xE7#8 b c = .iscZp0 b := rfl
@[simp] theorem decodeBytes_E8 (b c : Byte) : decodeBytes 0xE8#8 b c = .inx := rfl
@[simp] theorem decodeBytes_E9 (b c : Byte) : decodeBytes 0xE9#8 b c = .sbcImm b := rfl
@[simp] theorem decodeBytes_EA (b c : Byte) : decodeBytes 0xEA#8 b c = .nop := rfl
@[simp] theorem decodeBytes_EB (b c : Byte) : decodeBytes 0xEB#8 b c = .sbcImmEB b := rfl
@[simp] theorem decodeBytes_EC (b c : Byte) : decodeBytes 0xEC#8 b c = .cpxAbs (wordOf b c) := rfl
@[simp] theorem decodeBytes_ED (b c : Byte) : decodeBytes 0xED#8 b c = .sbcAbs (wordOf b c) := rfl
@[simp] theorem decodeBytes_EE (b c : Byte) : decodeBytes 0xEE#8 b c = .incAbs (wordOf b c) := rfl
@[simp] theorem decodeBytes_EF (b c : Byte) : decodeBytes 0xEF#8 b c = .iscAbs (wordOf b c) := rfl
@[simp] theorem decodeBytes_F0 (b c : Byte) : decodeBytes 0xF0#8 b c = .beq b := rfl
@[simp] theorem decodeBytes_F1 (b c : Byte) : decodeBytes 0xF1#8 b c = .sbcIzy b := rfl
@[simp] theorem decodeBytes_F2 (b c : Byte) : decodeBytes 0xF2#8 b c = .kilF2 := rfl
@[simp] theorem decodeBytes_F3 (b c : Byte) : decodeBytes 0xF3#8 b c = .iscIzy b := rfl
@[simp] theorem decodeBytes_F4 (b c : Byte) : decodeBytes 0xF4#8 b c = .nopZpxF4 b := rfl
@[simp] theorem decodeBytes_F5 (b c : Byte) : decodeBytes 0xF5#8 b c = .sbcZpx b := rfl
@[simp] theorem decodeBytes_F6 (b c : Byte) : decodeBytes 0xF6#8 b c = .incZpx b := rfl
@[simp] theorem decodeBytes_F7 (b c : Byte) : decodeBytes 0xF7#8 b c = .iscZpx b := rfl
@[simp] theorem decodeBytes_F8 (b c : Byte) : decodeBytes 0xF8#8 b c = .sed := rfl
@[simp] theorem decodeBytes_F9 (b c : Byte) : decodeBytes 0xF9#8 b c = .sbcAby (wordOf b c) := rfl
@[simp] theorem decodeBytes_FA (b c : Byte) : decodeBytes 0xFA#8 b c = .nopImpFA := rfl
@[simp] theorem decodeBytes_FB (b c : Byte) : decodeBytes 0xFB#8 b c = .iscAby (wordOf b c) := rfl
@[simp] theorem decodeBytes_FC (b c : Byte) : decodeBytes 0xFC#8 b c = .nopAbxFC (wordOf b c) := rfl
@[simp] theorem decodeBytes_FD (b c : Byte) : decodeBytes 0xFD#8 b c = .sbcAbx (wordOf b c) := rfl
@[simp] theorem decodeBytes_FE (b c : Byte) : decodeBytes 0xFE#8 b c = .incAbx (wordOf b c) := rfl
@[simp] theorem decodeBytes_FF (b c : Byte) : decodeBytes 0xFF#8 b c = .iscAbx (wordOf b c) := rfl

/-- What holds of the sixteen rows of the opcode map, entry by entry, holds of every opcode. -/
theorem forall_opcode {P : Byte → Prop} (h : ∀ hi < 16, ∀ lo < 16, P (BitVec.ofNat 8 (hi * 16 + lo))) (op : Byte) :
    P op := by
  have h1 := h (op.toNat / 16) (by have := op.isLt; omega) (op.toNat % 16) (by omega)
  have h2 : op.toNat / 16 * 16 + op.toNat % 16 = op.toNat := by omega
  rw [h2] at h1
  simpa using h1

/-- Instructions have one to three bytes (30 R192). -/
theorem opLength_cases (op : Byte) : opLength op = 1 ∨ opLength op = 2 ∨ opLength op = 3 := by
  revert op
  exact forall_opcode (by decide)

end Sys2Proof
end

