-- ==== Sys2Proof/Laws/Ops.lean ====
section
/-! SUPPORT. The shared operations in closed form: the stack lies in RAM, so a push is one RAM write and a pull one RAM
read; a plain-storage read changes nothing; the addressing modes only read. -/

namespace Sys2Proof.Machine

/-- A read below `0x2000` is a RAM read and changes nothing (20 R101). -/
theorem memRead_ram (s : State) {a : Word} (h : a < 0x2000#16) :
    memRead s a = (Memory.read s.bus.ram (ramIndex a), s) := by
  have h' : a < 0x6000#16 := BitVec.lt_trans h (by decide)
  simp only [memRead, mapperReadCpu, if_pos h', if_pos h]

/-- A write below `0x2000` is a RAM write (20 R102). -/
theorem memWrite_ram (s : State) {a : Word} (h : a < 0x2000#16) (v : Byte) :
    memWrite s a v = s.setBus { s.bus with ram := Memory.write s.bus.ram (ramIndex a) v } := by
  have h' : a < 0x6000#16 := BitVec.lt_trans h (by decide)
  simp only [memWrite, mapperWriteCpu, if_pos h', if_pos h]; rfl

/-- A read from `0x6000` up is the mapper's and changes nothing (21 R151, R160, R172, R177). -/
theorem memRead_mapper_snd (s : State) {a : Word} (h : 0x6000#16 ≤ a) : (memRead s a).2 = s := by
  have h' : ¬ a < 0x6000#16 := BitVec.not_lt.mpr h
  by_cases h2 : a < 0x8000#16 <;> simp only [memRead, mapperReadCpu, if_neg h', h2, if_true, if_false]

/-- Plain storage reads without side effects. -/
theorem memRead_storable_snd (s : State) {a : Word} (h : storable a = true) : (memRead s a).2 = s := by
  simp only [storable, Bool.or_eq_true, decide_eq_true_eq] at h
  rcases h with h | h
  · rw [memRead_ram s h]
  · exact memRead_mapper_snd s h

theorem stackAddr_toNat (sp : Byte) : (stackAddr sp).toNat = 0x100 + sp.toNat := by
  have := sp.isLt
  simp only [stackAddr, BitVec.toNat_append]
  rw [← Nat.shiftLeft_add_eq_or_of_lt (by omega), Nat.shiftLeft_eq]; rfl

theorem stackAddr_lt (sp : Byte) : stackAddr sp < 0x2000#16 := by
  have := sp.isLt
  rw [BitVec.lt_def, stackAddr_toNat]; simp; omega

theorem ramIndex_eq (a : Word) : ramIndex a = a.toNat % 0x800 := by
  simp only [ramIndex, BitVec.toNat_and]
  exact Nat.and_two_pow_sub_one_eq_mod _ 11

@[simp] theorem ramIndex_stackAddr (sp : Byte) : ramIndex (stackAddr sp) = stackIndex sp := by
  have := sp.isLt
  rw [ramIndex_eq, stackAddr_toNat, stackIndex]; omega

/-- A push: one RAM write and `S - 1` (00 R14). -/
theorem push8_eq (s : State) (v : Byte) :
    push8 s v = (s.setBus { s.bus with ram := Memory.write s.bus.ram (stackIndex s.cpu.s) v }).setCpu
      { s.cpu with s := s.cpu.s - 1#8 } := by
  simp only [push8, memWrite_ram s (stackAddr_lt _), ramIndex_stackAddr]; rfl

/-- A pull: `S + 1` and one RAM read (00 R14). -/
theorem pull8_eq (s : State) :
    pull8 s = (Memory.read s.bus.ram (stackIndex (s.cpu.s + 1#8)), s.setCpu { s.cpu with s := s.cpu.s + 1#8 }) := by
  simp only [pull8, memRead_ram _ (stackAddr_lt _), ramIndex_stackAddr]; rfl

/-- A 16-bit pull (00 R14). -/
theorem pull16_eq (s : State) :
    pull16 s = (wordOf (Memory.read s.bus.ram (stackIndex (s.cpu.s + 1#8)))
        (Memory.read s.bus.ram (stackIndex (s.cpu.s + 1#8 + 1#8))),
      s.setCpu { s.cpu with s := s.cpu.s + 1#8 + 1#8 }) := by
  simp only [pull16, pull8_eq]; rfl

/-- A 16-bit push (00 R14). -/
theorem push16_eq (s : State) (v : Word) :
    push16 s v = (s.setBus { s.bus with
      ram := Memory.write (Memory.write s.bus.ram (stackIndex s.cpu.s) (hiByte v)) (stackIndex (s.cpu.s - 1#8))
        (loByte v) }).setCpu { s.cpu with s := s.cpu.s - 1#8 - 1#8 } := by
  simp only [push16, push8_eq]; rfl

/-- What an effect on registers and the stack leaves alone: all but the CPU and RAM. -/
structure StackEffect (s t : State) : Prop where
  ppu     : t.ppu = s.ppu
  bus     : t.bus = { s.bus with ram := t.bus.ram }
  cart    : t.cart = s.cart
  params  : t.params = s.params
  out     : t.out = s.out
  refusal : t.refusal = s.refusal

theorem StackEffect.trans {s t u : State} (h : StackEffect s t) (g : StackEffect t u) : StackEffect s u :=
  ⟨g.ppu.trans h.ppu, by rw [g.bus, h.bus], g.cart.trans h.cart, g.params.trans h.params, g.out.trans h.out,
    g.refusal.trans h.refusal⟩

theorem StackEffect.ready {s t : State} (h : StackEffect s t) (hs : s.Ready) : t.Ready :=
  ⟨h.refusal.trans hs.1, by rw [h.cart]; exact hs.2⟩

theorem setCpu_stackEffect (s : State) (c : Cpu) : StackEffect s (s.setCpu c) := ⟨rfl, rfl, rfl, rfl, rfl, rfl⟩

theorem push8_effect (s : State) (v : Byte) : StackEffect s (push8 s v) := by
  rw [push8_eq]; exact ⟨rfl, rfl, rfl, rfl, rfl, rfl⟩

/-- A read from `0x6000` up looks at the cartridge alone. -/
theorem peek_mapper_congr {s t : State} (hc : s.cart = t.cart) {a : Word} (h : 0x6000#16 ≤ a) : peek s a = peek t a := by
  have h' : ¬ a < 0x6000#16 := BitVec.not_lt.mpr h
  by_cases h2 : a < 0x8000#16 <;> simp only [peek, memRead, mapperReadCpu, if_neg h', h2, if_true, if_false, hc]

/-- A vector is read from the cartridge: two bytes, little-endian, with no side effect (20 R130). -/
theorem read16_mapper {s t : State} (hc : t.cart = s.cart) {a : Word} (h : 0x6000#16 ≤ a) (h' : 0x6000#16 ≤ a + 1#16) :
    read16 t a = (wordOf (peek s a) (peek s (a + 1#16)), t) := by
  rw [← peek_mapper_congr hc h, ← peek_mapper_congr hc h']
  simp only [read16, memRead_mapper_snd t h, memRead_mapper_snd t h']; rfl

/-- Taking an exception, in closed form. -/
theorem enterException_eq (s : State) {vec : Word} (pushed : Byte) (h : 0x6000#16 ≤ vec) (h' : 0x6000#16 ≤ vec + 1#16) :
    enterException s vec pushed = (s.setBus { s.bus with
      ram := Memory.write (Memory.write (Memory.write s.bus.ram (stackIndex s.cpu.s) (hiByte s.cpu.pc))
        (stackIndex (s.cpu.s - 1#8)) (loByte s.cpu.pc)) (stackIndex (s.cpu.s - 1#8 - 1#8)) pushed }).setCpu
      { s.cpu with
        s := s.cpu.s - 1#8 - 1#8 - 1#8
        p := withFlag s.cpu.p flagI true
        pc := wordOf (peek s vec) (peek s (vec + 1#16)) } := by
  have hr : ∀ c b, read16 ((s.setBus b).setCpu c) vec = (wordOf (peek s vec) (peek s (vec + 1#16)), (s.setBus b).setCpu c) :=
    fun c b => read16_mapper (s := s) (t := (s.setBus b).setCpu c) rfl h h'
  simp only [enterException, push16_eq, push8_eq, State.setP]
  exact congrArg (fun r : Word × State => r.2.setPc r.1) (hr _ _)

/-- The return from an exception, in closed form. -/
theorem returnFromException_eq (s : State) :
    returnFromException s = s.setCpu { s.cpu with
      s := s.cpu.s + 1#8 + 1#8 + 1#8
      p := pulledP (Memory.read s.bus.ram (stackIndex (s.cpu.s + 1#8)))
      pc := wordOf (Memory.read s.bus.ram (stackIndex (s.cpu.s + 1#8 + 1#8)))
        (Memory.read s.bus.ram (stackIndex (s.cpu.s + 1#8 + 1#8 + 1#8))) } := by
  simp only [returnFromException, pull8_eq, pull16_eq]; rfl

theorem ReadEffect.trans {s t u : State} (h : ReadEffect s t) (g : ReadEffect t u) : ReadEffect s u where
  cpu := g.cpu.trans h.cpu
  bus := g.bus.trans h.bus
  cart := g.cart.trans h.cart
  params := g.params.trans h.params
  out := g.out.trans h.out
  ppu := by rw [g.ppu, h.ppu]
  status := by
    have h7 : ∀ r : Clocked, (r.clear 7).clear 7 = r.clear 7 := fun r => by
      simp [Clocked.clear, BitVec.and_assoc]
    rcases g.status with hg | hg <;> rcases h.status with hh | hh <;> rw [hg, hh]
    · exact .inl rfl
    · exact .inr rfl
    · exact .inr rfl
    · exact .inr (h7 _)
  ready hs := g.ready ⟨h.ready hs, by rw [h.cart]; exact hs.2⟩

theorem ReadEffect.isReady {s t : State} (h : ReadEffect s t) (hs : s.Ready) : t.Ready :=
  ⟨h.ready hs, by rw [h.cart]; exact hs.2⟩

/-- An addressing mode only reads (40 R234-R244). -/
theorem resolve_effect (m : Mode) (operand : Word) (s : State) : ReadEffect s (resolve m operand s).st := by
  cases m
  case ind => exact (memRead_effect _ _).trans (memRead_effect _ _)
  case izx => exact (memRead_effect _ _).trans (memRead_effect _ _)
  case izy => exact (memRead_effect _ _).trans (memRead_effect _ _)
  all_goals exact .refl s

/-- Reading the operand only reads (40 R245). -/
theorem readOperand_effect (m : Mode) (operand ea : Word) (s : State) :
    ReadEffect s (readOperand m operand ea s).2 := by
  cases m
  case imp | acc | imm => exact .refl s
  all_goals exact memRead_effect _ _

end Sys2Proof.Machine
end

