-- ==== Sys2Proof/Laws/Access.lean ====
section
/-! SUPPORT. What an access of the CPU can change, in terms of the addresses written: one statement for reads, writes and
register updates, closed under composition. -/

namespace Sys2Proof.Machine

theorem Memory.read_erase_ne (m : Memory) {i j : Nat} (h : i ≠ j) : Memory.read (Memory.erase m i) j = Memory.read m j := by
  induction m with
  | nil => rfl
  | cons c rest ih =>
    obtain ⟨k, u⟩ := c
    rw [Memory.erase]
    by_cases hk : k = i
    · subst hk; rw [if_pos rfl, Memory.read, if_neg h]
    · rw [if_neg hk, Memory.read, Memory.read, ih]
theorem Memory.read_write_ne (m : Memory) {i j : Nat} (v : Byte) (h : i ≠ j) : Memory.read (Memory.write m i v) j = Memory.read m j := by
  rw [Memory.write]
  split
  · exact Memory.read_erase_ne m h
  · rw [Memory.read_insert, if_neg h]

/-- What a piece of an instruction that writes at most the CPU addresses in `l` can change (20 R126, R127). -/
structure AccessEffect (l : List Word) (s t : State) : Prop where
  peek     : ∀ a : Word, storable a = true → a < 0x8000#16 → (∀ x ∈ l, ¬ sameCell a x) → peek t a = peek s a
  stores   : (∀ x ∈ l, ¬ (0x2000#16 ≤ x ∧ x < 0x4000#16)) →
    t.bus.vram = s.bus.vram ∧ t.bus.palette = s.bus.palette ∧ t.bus.pattern = s.bus.pattern ∧ t.ppu.oam = s.ppu.oam
  ppu      : (∀ x ∈ l, ¬ (0x2000#16 ≤ x ∧ x < 0x4000#16)) →
    t.ppu = { s.ppu with
      status := ⟨s.ppu.status.current, t.ppu.status.new⟩, w := t.ppu.w, v := t.ppu.v, readBuffer := t.ppu.readBuffer }
  dma      : 0x4014#16 ∉ l → t.bus.dmaState = s.bus.dmaState ∧ t.bus.dmaBase = s.bus.dmaBase ∧
    t.bus.dmaCount = s.bus.dmaCount ∧ t.bus.dmaData = s.bus.dmaData ∧ t.bus.dmaReadPhase = s.bus.dmaReadPhase
  cart     : (∀ x ∈ l, x < 0x8000#16) → t.cart = { s.cart with prgRam := t.cart.prgRam }
  out      : (∀ x ∈ l, ¬ (0x4000#16 ≤ x ∧ x < 0x4018#16)) → t.out = s.out
  lines    : t.bus.busCycle = s.bus.busCycle ∧ t.bus.nmiLine = s.bus.nmiLine ∧ t.bus.irqLine = s.bus.irqLine
  launch   : t.params = s.params ∧ t.cart.mapper = s.cart.mapper ∧ t.cart.prgBanks = s.cart.prgBanks ∧
    t.cart.chrBanks = s.cart.chrBanks ∧ t.cart.mirror = s.cart.mirror ∧ t.cart.battery = s.cart.battery ∧
    t.cart.rom = s.cart.rom
  refusal  : t.refusal = s.refusal ∨ (mirrorMode s.cart = .four ∧ t.refusal = some .fourScreenUnmodelled)

/-- FOUR comes from the header alone. -/
theorem mirrorMode_four_congr {c d : Cart} (h : d.mapper = c.mapper) (h2 : d.mirror = c.mirror) (h4 : mirrorMode d = .four) : mirrorMode c = .four := by
  unfold mirrorMode at *
  rw [h, h2] at h4
  split
  · simpa [*] using h4
  · rename_i hm; rw [hm] at h4; simp only at h4; split at h4 <;> cases h4

theorem AccessEffect.trans {l : List Word} {s t u : State} (h : AccessEffect l s t) (g : AccessEffect l t u) :
    AccessEffect l s u where
  peek a h1 h2 h3 := (g.peek a h1 h2 h3).trans (h.peek a h1 h2 h3)
  stores q := by
    obtain ⟨a1, a2, a3, a4⟩ := h.stores q
    obtain ⟨b1, b2, b3, b4⟩ := g.stores q
    exact ⟨b1.trans a1, b2.trans a2, b3.trans a3, b4.trans a4⟩
  ppu q := by rw [g.ppu q, h.ppu q]
  dma q := by
    obtain ⟨a1, a2, a3, a4, a5⟩ := h.dma q
    obtain ⟨b1, b2, b3, b4, b5⟩ := g.dma q
    exact ⟨b1.trans a1, b2.trans a2, b3.trans a3, b4.trans a4, b5.trans a5⟩
  cart q := by rw [g.cart q, h.cart q]
  out q := (g.out q).trans (h.out q)
  lines := by
    obtain ⟨a1, a2, a3⟩ := h.lines
    obtain ⟨b1, b2, b3⟩ := g.lines
    exact ⟨b1.trans a1, b2.trans a2, b3.trans a3⟩
  launch := by
    obtain ⟨a1, a2, a3, a4, a5, a6, a7⟩ := h.launch
    obtain ⟨b1, b2, b3, b4, b5, b6, b7⟩ := g.launch
    exact ⟨b1.trans a1, b2.trans a2, b3.trans a3, b4.trans a4, b5.trans a5, b6.trans a6, b7.trans a7⟩
  refusal := by
    rcases g.refusal with g1 | ⟨g1, g2⟩
    · rcases h.refusal with h1 | h1
      · exact .inl (g1.trans h1)
      · exact .inr ⟨h1.1, g1.trans h1.2⟩
    · exact .inr ⟨mirrorMode_four_congr h.launch.2.1 h.launch.2.2.2.2.1 g1, g2⟩

theorem peek_storable (s : State) {a : Word} (h : storable a = true) (h8 : a < 0x8000#16) :
    peek s a = if a < 0x2000#16 then Memory.read s.bus.ram (ramIndex a) else Memory.read s.cart.prgRam (prgRamIndex a) := by
  by_cases h2 : a < 0x2000#16
  · rw [if_pos h2]; unfold peek; rw [memRead_ram s h2]
  · rw [if_neg h2]
    simp only [storable, Bool.or_eq_true, decide_eq_true_eq, h2, false_or] at h
    have h' : ¬ a < 0x6000#16 := BitVec.not_lt.mpr h
    simp only [peek, memRead, mapperReadCpu, if_neg h', if_pos h8]

theorem dataRead_refusal (s : State) : (dataRead s).2.refusal = s.refusal ∨ (mirrorMode s.cart = .four ∧ (dataRead s).2.refusal = some .fourScreenUnmodelled) := by
  by_cases hm : mirrorMode s.cart = .four
  · have h1 : ∀ (u : State) a, (ppuRead u a).2.refusal = u.refusal ∨ (ppuRead u a).2.refusal = some .fourScreenUnmodelled := fun u a => by
      rcases ppuRead_cases u a with h | h <;> rw [h]
      · exact .inl rfl
      · exact .inr rfl
    unfold dataRead
    simp only []
    split
    · rcases h1 (ppuRead s s.ppu.vAddr).2 (s.ppu.vAddr - 0x1000#14) with h | h
      · rcases h1 s s.ppu.vAddr with g | g
        · exact .inl (h.trans g)
        · exact .inr ⟨hm, h.trans g⟩
      · exact .inr ⟨hm, h⟩
    · rcases h1 s s.ppu.vAddr with g | g
      · exact .inl g
      · exact .inr ⟨hm, g⟩
  · have h1 : ∀ (u : State) a, mirrorMode u.cart ≠ .four → (ppuRead u a).2 = u := fun u a h => ppuRead_snd h a
    left; unfold dataRead; simp only [h1 _ _ hm]; split <;> rfl

theorem memRead_refusal (s : State) (a) : (memRead s a).2.refusal = s.refusal ∨ (mirrorMode s.cart = .four ∧ (memRead s a).2.refusal = some .fourScreenUnmodelled) := by
  unfold memRead ppuCpuRead
  split
  · exact .inl rfl
  · split
    · exact .inl rfl
    · split
      · split
        · exact .inl rfl
        · exact .inl rfl
        · exact dataRead_refusal s
        · exact .inl rfl
      · split <;> exact .inl rfl

theorem ppuFrame_oam {s t : Ppu} (h : t = { s with
      status := ⟨s.status.current, t.status.new⟩, w := t.w, v := t.v, readBuffer := t.readBuffer }) : t.oam = s.oam := by rw [h]

theorem memRead_access (l : List Word) (s : State) (a : Word) : AccessEffect l s (memRead s a).2 := by
  have e := memRead_effect s a
  refine ⟨?_, fun _ => ?_, fun _ => e.ppu, fun _ => ?_, fun _ => ?_, fun _ => e.out, ?_, ?_, memRead_refusal s a⟩
  · intro b h1 h2 _; rw [peek_storable _ h1 h2, peek_storable _ h1 h2, e.bus, e.cart]
  · rw [e.bus]; exact ⟨rfl, rfl, rfl, ppuFrame_oam e.ppu⟩
  · rw [e.bus]; simp
  · rw [e.cart]
  · rw [e.bus]; simp
  · rw [e.cart, e.params]; simp

theorem AccessEffect.refl (l : List Word) (s : State) : AccessEffect l s s :=
  ⟨fun _ _ _ _ => rfl, fun _ => ⟨rfl, rfl, rfl, rfl⟩, fun _ => rfl, fun _ => ⟨rfl, rfl, rfl, rfl, rfl⟩, fun _ => rfl, fun _ => rfl, ⟨rfl, rfl, rfl⟩, ⟨rfl, rfl, rfl, rfl, rfl, rfl, rfl⟩, .inl rfl⟩
theorem setCpu_access (l : List Word) (s : State) (c : Cpu) : AccessEffect l s (s.setCpu c) :=
  ⟨fun _ _ _ _ => peek_setCpu _ _ _, fun _ => ⟨rfl, rfl, rfl, rfl⟩, fun _ => rfl, fun _ => ⟨rfl, rfl, rfl, rfl, rfl⟩, fun _ => rfl, fun _ => rfl, ⟨rfl, rfl, rfl⟩, ⟨rfl, rfl, rfl, rfl, rfl, rfl, rfl⟩, .inl rfl⟩

theorem ppuWrite_refusal_or (s : State) (a v) : (ppuWrite s a v).refusal = s.refusal ∨ (mirrorMode s.cart = .four ∧ (ppuWrite s a v).refusal = some .fourScreenUnmodelled) := by
  by_cases hm : mirrorMode s.cart = .four
  · rcases ppuWrite_cases s a v with h | ⟨_, _, _, h⟩
    · exact .inr ⟨hm, by rw [h]; rfl⟩
    · exact .inl (by rw [h]; rfl)
  · exact .inl (ppuWrite_refusal hm a v)

theorem ppuWrite_bus (s : State) (a v) : ∃ vr pa pt, (ppuWrite s a v).bus = { s.bus with vram := vr, palette := pa, pattern := pt } := by
  rcases ppuWrite_cases s a v with h | ⟨_, _, _, h⟩
  · exact ⟨s.bus.vram, s.bus.palette, s.bus.pattern, by rw [h]; rfl⟩
  · exact ⟨_, _, _, by rw [h]; rfl⟩

theorem ppuCpuWrite_bus (s : State) (r v) : ∃ vr pa pt, (ppuCpuWrite s r v).bus = { s.bus with vram := vr, palette := pa, pattern := pt } := by
  unfold ppuCpuWrite dataWrite
  split
  case h_8 => obtain ⟨a, b, c, h⟩ := ppuWrite_bus s s.ppu.vAddr v; exact ⟨a, b, c, h⟩
  all_goals exact ⟨s.bus.vram, s.bus.palette, s.bus.pattern, rfl⟩
theorem ppuCpuWrite_out (s : State) (r v) : (ppuCpuWrite s r v).out = s.out := by
  unfold ppuCpuWrite dataWrite
  split <;> simp
theorem ppuCpuWrite_refusal_or (s : State) (r v) : (ppuCpuWrite s r v).refusal = s.refusal ∨ (mirrorMode s.cart = .four ∧ (ppuCpuWrite s r v).refusal = some .fourScreenUnmodelled) := by
  unfold ppuCpuWrite dataWrite
  split
  case h_8 => exact ppuWrite_refusal_or s s.ppu.vAddr v
  all_goals exact .inl rfl

theorem mmc1Serial_header (c : Cart) (a v) : (mmc1Serial c a v).mapper = c.mapper ∧ (mmc1Serial c a v).prgBanks = c.prgBanks ∧
  (mmc1Serial c a v).chrBanks = c.chrBanks ∧ (mmc1Serial c a v).mirror = c.mirror ∧ (mmc1Serial c a v).battery = c.battery ∧ (mmc1Serial c a v).rom = c.rom ∧ (mmc1Serial c a v).prgRam = c.prgRam := by
  unfold mmc1Serial mmc1Commit
  split
  · simp
  · split
    · split <;> simp
    · simp

/-- The CPU write (20 R102). -/
theorem memWrite_access (s : State) (ea : Word) (v : Byte) : AccessEffect [ea] s (memWrite s ea v) := by
  by_cases h1 : ea < 0x2000#16
  · rw [memWrite_ram s h1]
    refine ⟨fun a ha h8 hc => ?_, fun _ => ⟨rfl, rfl, rfl, rfl⟩, fun _ => rfl, fun _ => ⟨rfl, rfl, rfl, rfl, rfl⟩, fun _ => rfl, fun _ => rfl, ⟨rfl, rfl, rfl⟩, ⟨rfl, rfl, rfl, rfl, rfl, rfl, rfl⟩, .inl rfl⟩
    rw [peek_storable _ ha h8, peek_storable _ ha h8]
    by_cases h2 : a < 0x2000#16
    · rw [if_pos h2, if_pos h2]
      refine Memory.read_write_ne _ _ fun e => hc ea (by simp) (.inl ⟨h2, h1, e.symm⟩)
    · rw [if_neg h2, if_neg h2]; rfl
  by_cases h6 : ea < 0x6000#16
  · have hm : mapperWriteCpu s.cart ea v = none := by unfold mapperWriteCpu; rw [if_pos h6]
    unfold memWrite; rw [hm]; simp only [if_neg h1]
    by_cases h4 : ea < 0x4000#16
    · simp only [if_pos h4]
      have hin : ¬ ∀ x ∈ [ea], ¬ (0x2000#16 ≤ x ∧ x < 0x4000#16) := by simpa using ⟨BitVec.not_lt.mp h1, h4⟩
      obtain ⟨vr, pa, pt, hb⟩ := ppuCpuWrite_bus s (ppuRegOf ea) v
      refine ⟨fun a ha h8 hc => ?_, fun q => absurd q hin, fun q => absurd q hin, fun _ => ?_, fun _ => ?_, fun _ => ppuCpuWrite_out _ _ _, ?_, ?_, ppuCpuWrite_refusal_or _ _ _⟩
      · rw [peek_storable _ ha h8, peek_storable _ ha h8, hb, ppuCpuWrite_cart]
      · rw [hb]; simp
      · rw [ppuCpuWrite_cart]
      · rw [hb]; simp
      · rw [ppuCpuWrite_cart, ppuCpuWrite_params]; simp
    · simp only [if_neg h4]
      by_cases h5 : ea < 0x4018#16
      · simp only [if_pos h5]
        by_cases h14 : ea = 0x4014#16
        · simp only [if_pos h14]
          refine ⟨fun a ha h8 hc => ?_, fun _ => ⟨rfl, rfl, rfl, rfl⟩, fun _ => rfl, fun q => absurd (by simp [h14]) q, fun _ => rfl, fun _ => rfl, ⟨rfl, rfl, rfl⟩, ⟨rfl, rfl, rfl, rfl, rfl, rfl, rfl⟩, .inl rfl⟩
          rw [peek_storable _ ha h8, peek_storable _ ha h8]; rfl
        · simp only [if_neg h14]
          have hin : ¬ ∀ x ∈ [ea], ¬ (0x4000#16 ≤ x ∧ x < 0x4018#16) := by simpa using ⟨BitVec.not_lt.mp h4, h5⟩
          refine ⟨fun a ha h8 hc => ?_, fun _ => ⟨rfl, rfl, rfl, rfl⟩, fun _ => rfl, fun _ => ⟨rfl, rfl, rfl, rfl, rfl⟩, fun _ => rfl, fun q => absurd q hin, ⟨rfl, rfl, rfl⟩, ⟨rfl, rfl, rfl, rfl, rfl, rfl, rfl⟩, .inl rfl⟩
          rw [peek_storable _ ha h8, peek_storable _ ha h8]; rfl
      · simp only [if_neg h5]; exact .refl _ _
  · by_cases h8 : ea < 0x8000#16
    · unfold memWrite mapperWriteCpu; simp only [if_neg h6, if_pos h8]
      refine ⟨fun a ha h8' hc => ?_, fun _ => ⟨rfl, rfl, rfl, rfl⟩, fun _ => rfl, fun _ => ⟨rfl, rfl, rfl, rfl, rfl⟩, fun _ => rfl, fun _ => rfl, ⟨rfl, rfl, rfl⟩, ⟨rfl, rfl, rfl, rfl, rfl, rfl, rfl⟩, .inl rfl⟩
      rw [peek_storable _ ha h8', peek_storable _ ha h8']
      by_cases h2 : a < 0x2000#16
      · rw [if_pos h2, if_pos h2]
      · rw [if_neg h2, if_neg h2]
        refine Memory.read_write_ne _ _ fun e => hc ea (by simp) (.inr ?_)
        simp only [storable, Bool.or_eq_true, decide_eq_true_eq, h2, false_or] at ha
        refine ⟨ha, h8', ?_⟩
        have hea : 0x6000#16 ≤ ea := BitVec.not_lt.mp h6
        unfold prgRamIndex at e
        apply BitVec.eq_of_toNat_eq
        simp only [BitVec.le_def, BitVec.toNat_sub, BitVec.toNat_ofNat] at *
        have := a.isLt; have := ea.isLt
        omega
    · unfold memWrite mapperWriteCpu; simp only [if_neg h6, if_neg h8]
      have hn : ¬ ∀ x ∈ [ea], x < 0x8000#16 := by simpa using BitVec.not_lt.mp h8
      split
      next c hc =>
        have hk : c.mapper = s.cart.mapper ∧ c.prgBanks = s.cart.prgBanks ∧ c.chrBanks = s.cart.chrBanks ∧ c.mirror = s.cart.mirror ∧ c.battery = s.cart.battery ∧ c.rom = s.cart.rom ∧ c.prgRam = s.cart.prgRam := by
          split at hc
          · cases hc; simp
          · cases hc; exact mmc1Serial_header _ _ _
        obtain ⟨k1, k2, k3, k4, k5, k6, k7⟩ := hk
        refine ⟨fun a ha h8' _ => ?_, fun _ => ⟨rfl, rfl, rfl, rfl⟩, fun _ => rfl, fun _ => ⟨rfl, rfl, rfl, rfl, rfl⟩, fun q => absurd q hn, fun _ => rfl, ⟨rfl, rfl, rfl⟩, ⟨rfl, k1, k2, k3, k4, k5, k6⟩, .inl rfl⟩
        rw [peek_storable _ ha h8', peek_storable _ ha h8']
        show (if _ then _ else Memory.read c.prgRam _) = _
        rw [k7]
      next hc => split at hc <;> cases hc

theorem AccessEffect.mono {l m : List Word} {s t : State} (hl : ∀ x ∈ l, x ∈ m) (h : AccessEffect l s t) :
    AccessEffect m s t :=
  ⟨fun a h1 h2 h3 => h.peek a h1 h2 fun x hx => h3 x (hl x hx), fun q => h.stores fun x hx => q x (hl x hx),
    fun q => h.ppu fun x hx => q x (hl x hx), fun q => h.dma fun hx => q (hl _ hx), fun q => h.cart fun x hx => q x (hl x hx),
    fun q => h.out fun x hx => q x (hl x hx), h.lines, h.launch, h.refusal⟩

/-- The fetch (40 R226). -/
theorem fetch_access (l : List Word) (s : State) : AccessEffect l s (fetch s).st := by
  unfold fetch
  simp only []
  split
  · exact memRead_access l s _
  · exact (memRead_access l s _).trans (memRead_access l _ _)
  · exact ((memRead_access l s _).trans (memRead_access l _ _)).trans (memRead_access l _ _)

end Sys2Proof.Machine
end

