-- ==== Sys2Proof/Laws/Ppu.lean ====
section
/-! SUPPORT. What each stage of a dot can do (61 R421): the stages touch the PPU's pipelines, Status and V, the pixel
output and, under FOUR, the refusal mark, and nothing else. -/

namespace Sys2Proof.Machine

/-- What the stages of a dot leave alone in the PPU: the registers the CPU writes, primary OAM, the read buffer and the
position. -/
structure PpuKept (p q : Ppu) : Prop where
  ctrl        : q.ctrl = p.ctrl
  mask        : q.mask = p.mask
  current     : q.status.current = p.status.current
  oamAddrReg  : q.oamAddrReg = p.oamAddrReg
  oamDataReg  : q.oamDataReg = p.oamDataReg
  scrollReg   : q.scrollReg = p.scrollReg
  dataReg     : q.dataReg = p.dataReg
  oamAddr     : q.oamAddr = p.oamAddr
  t           : q.t = p.t
  x           : q.x = p.x
  w           : q.w = p.w
  readBuffer  : q.readBuffer = p.readBuffer
  hCount      : q.hCount = p.hCount
  vCount      : q.vCount = p.vCount
  isEvenFrame : q.isEvenFrame = p.isEvenFrame
  ppuPhase    : q.ppuPhase = p.ppuPhase
  oam         : q.oam = p.oam

theorem PpuKept.refl (p : Ppu) : PpuKept p p :=
  ⟨rfl, rfl, rfl, rfl, rfl, rfl, rfl, rfl, rfl, rfl, rfl, rfl, rfl, rfl, rfl, rfl, rfl⟩

theorem PpuKept.trans {p q r : Ppu} (h : PpuKept p q) (g : PpuKept q r) : PpuKept p r where
  ctrl := g.ctrl.trans h.ctrl
  mask := g.mask.trans h.mask
  current := g.current.trans h.current
  oamAddrReg := g.oamAddrReg.trans h.oamAddrReg
  oamDataReg := g.oamDataReg.trans h.oamDataReg
  scrollReg := g.scrollReg.trans h.scrollReg
  dataReg := g.dataReg.trans h.dataReg
  oamAddr := g.oamAddr.trans h.oamAddr
  t := g.t.trans h.t
  x := g.x.trans h.x
  w := g.w.trans h.w
  readBuffer := g.readBuffer.trans h.readBuffer
  hCount := g.hCount.trans h.hCount
  vCount := g.vCount.trans h.vCount
  isEvenFrame := g.isEvenFrame.trans h.isEvenFrame
  ppuPhase := g.ppuPhase.trans h.ppuPhase
  oam := g.oam.trans h.oam

/-- What a stage of a dot leaves alone in the machine. -/
structure DotEffect (s t : State) : Prop where
  cpu      : t.cpu = s.cpu
  ppu      : PpuKept s.ppu t.ppu
  bus      : t.bus = s.bus
  cart     : t.cart = s.cart
  params   : t.params = s.params
  ioWrites : t.out.ioWrites = s.out.ioWrites
  refusal  : t.refusal = s.refusal ∨ mirrorMode s.cart = .four ∧ t.refusal = some .fourScreenUnmodelled

theorem DotEffect.refl (s : State) : DotEffect s s := ⟨rfl, .refl _, rfl, rfl, rfl, rfl, .inl rfl⟩

theorem DotEffect.trans {s t u : State} (h : DotEffect s t) (g : DotEffect t u) : DotEffect s u where
  cpu := g.cpu.trans h.cpu
  ppu := h.ppu.trans g.ppu
  bus := g.bus.trans h.bus
  cart := g.cart.trans h.cart
  params := g.params.trans h.params
  ioWrites := g.ioWrites.trans h.ioWrites
  refusal := by
    rcases g.refusal with q | q
    · rcases h.refusal with p | p
      · exact .inl (q.trans p)
      · exact .inr ⟨p.1, q.trans p.2⟩
    · exact .inr ⟨h.cart ▸ q.1, q.2⟩

/-- A stage under a condition. -/
theorem DotEffect.ite (b : Bool) {f : State → State} {s : State} (h : DotEffect s (f s)) :
    DotEffect s (if b then f s else s) := by
  cases b
  · exact .refl s
  · exact h

theorem setPpu_dotEffect {s : State} {p : Ppu} (h : PpuKept s.ppu p) : DotEffect s (s.setPpu p) :=
  ⟨rfl, h, rfl, rfl, rfl, rfl, .inl rfl⟩

theorem ppuRead_dotEffect (s : State) (a : PpuAddr) : DotEffect s (ppuRead s a).2 := by
  refine ⟨by simp, ?_, by simp, by simp, by simp, by simp, ?_⟩
  · rw [ppuRead_ppu]; exact .refl _
  · by_cases hm : mirrorMode s.cart = .four
    · rcases ppuRead_cases s a with h | h <;> rw [h]
      · exact .inl rfl
      · exact .inr ⟨hm, rfl⟩
    · rw [ppuRead_snd hm]; exact .inl rfl

theorem statusEvents_kept (p : Ppu) : PpuKept p (statusEvents p) := by
  unfold statusEvents
  repeat' split
  all_goals exact ⟨rfl, rfl, rfl, rfl, rfl, rfl, rfl, rfl, rfl, rfl, rfl, rfl, rfl, rfl, rfl, rfl, rfl⟩

theorem bgUpdateV_kept (p : Ppu) : PpuKept p (bgUpdateV p) := by
  unfold bgUpdateV
  repeat' split
  all_goals exact ⟨rfl, rfl, rfl, rfl, rfl, rfl, rfl, rfl, rfl, rfl, rfl, rfl, rfl, rfl, rfl, rfl, rfl⟩

theorem spriteCommit_kept (r : Bool) (p : Ppu) : PpuKept p (spriteCommit r p) := by
  unfold spriteCommit
  split <;> exact ⟨rfl, rfl, rfl, rfl, rfl, rfl, rfl, rfl, rfl, rfl, rfl, rfl, rfl, rfl, rfl, rfl, rfl⟩

theorem evalRead_kept (p : Ppu) : PpuKept p (evalRead p) := by
  unfold evalRead
  split <;> exact ⟨rfl, rfl, rfl, rfl, rfl, rfl, rfl, rfl, rfl, rfl, rfl, rfl, rfl, rfl, rfl, rfl, rfl⟩

theorem evalStep_kept (m : SpriteSizeMode) (p : Ppu) : PpuKept p (evalStep m p) := by
  unfold evalStep evalNewSprite evalCopySprite evalOverflow setSecOam
  repeat' split
  all_goals exact ⟨rfl, rfl, rfl, rfl, rfl, rfl, rfl, rfl, rfl, rfl, rfl, rfl, rfl, rfl, rfl, rfl, rfl⟩

theorem evalDot_kept (m : SpriteSizeMode) (r : Bool) (p : Ppu) : PpuKept p (evalDot m r p) := by
  have hs : PpuKept p (evalStart p) :=
    ⟨rfl, rfl, rfl, rfl, rfl, rfl, rfl, rfl, rfl, rfl, rfl, rfl, rfl, rfl, rfl, rfl, rfl⟩
  unfold evalDot setSecOam evalReset
  simp only []
  repeat' split
  · exact ⟨rfl, rfl, rfl, rfl, rfl, rfl, rfl, rfl, rfl, rfl, rfl, rfl, rfl, rfl, rfl, rfl, rfl⟩
  · exact .refl p
  · exact ⟨rfl, rfl, rfl, rfl, rfl, rfl, rfl, rfl, rfl, rfl, rfl, rfl, rfl, rfl, rfl, rfl, rfl⟩
  · exact .refl p
  · exact hs.trans (evalRead_kept _)
  · exact evalRead_kept p
  · exact evalStep_kept m p

theorem setSlot_kept (p : Ppu) (i : Nat) (sl : SprSlot) : PpuKept p (setSlot p i sl) :=
  ⟨rfl, rfl, rfl, rfl, rfl, rfl, rfl, rfl, rfl, rfl, rfl, rfl, rfl, rfl, rfl, rfl, rfl⟩

theorem shiftSprites_kept (p : Ppu) : PpuKept p (shiftSprites p) :=
  ⟨rfl, rfl, rfl, rfl, rfl, rfl, rfl, rfl, rfl, rfl, rfl, rfl, rfl, rfl, rfl, rfl, rfl⟩

theorem bgShift_kept (p : Ppu) : PpuKept p (bgShift p) :=
  ⟨rfl, rfl, rfl, rfl, rfl, rfl, rfl, rfl, rfl, rfl, rfl, rfl, rfl, rfl, rfl, rfl, rfl⟩

theorem bgReload_kept (p : Ppu) : PpuKept p (bgReload p) :=
  ⟨rfl, rfl, rfl, rfl, rfl, rfl, rfl, rfl, rfl, rfl, rfl, rfl, rfl, rfl, rfl, rfl, rfl⟩

theorem bgFetch_effect (s : State) : DotEffect s (bgFetch s) := by
  unfold bgFetch
  split
  · exact (ppuRead_dotEffect s _).trans
      (setPpu_dotEffect ⟨rfl, rfl, rfl, rfl, rfl, rfl, rfl, rfl, rfl, rfl, rfl, rfl, rfl, rfl, rfl, rfl, rfl⟩)
  · exact (ppuRead_dotEffect s _).trans
      (setPpu_dotEffect ⟨rfl, rfl, rfl, rfl, rfl, rfl, rfl, rfl, rfl, rfl, rfl, rfl, rfl, rfl, rfl, rfl, rfl⟩)
  · exact (ppuRead_dotEffect s _).trans
      (setPpu_dotEffect ⟨rfl, rfl, rfl, rfl, rfl, rfl, rfl, rfl, rfl, rfl, rfl, rfl, rfl, rfl, rfl, rfl, rfl⟩)
  · exact (ppuRead_dotEffect s _).trans
      (setPpu_dotEffect ⟨rfl, rfl, rfl, rfl, rfl, rfl, rfl, rfl, rfl, rfl, rfl, rfl, rfl, rfl, rfl, rfl, rfl⟩)
  · exact setPpu_dotEffect ⟨rfl, rfl, rfl, rfl, rfl, rfl, rfl, rfl, rfl, rfl, rfl, rfl, rfl, rfl, rfl, rfl, rfl⟩
  · exact .refl s

/-- The background pipeline (61 R444-R451). -/
theorem bgDot_effect (s : State) : DotEffect s (bgDot s) := by
  have h1 : DotEffect s (bgShiftStage s) := .ite _ (f := fun s => s.setPpu (bgShift s.ppu)) (setPpu_dotEffect (bgShift_kept _))
  have h2 : DotEffect _ (bgReloadStage (bgShiftStage s)) :=
    .ite _ (f := fun s => s.setPpu (bgReload s.ppu)) (setPpu_dotEffect (bgReload_kept _))
  have h3 : DotEffect _ (bgFetchStage (bgReloadStage (bgShiftStage s))) := .ite _ (f := bgFetch) (bgFetch_effect _)
  exact ((h1.trans h2).trans h3).trans (setPpu_dotEffect (bgUpdateV_kept _))

/-- Compositing (61 R473). -/
theorem compositeDot_effect (s : State) : DotEffect s (compositeDot s) := by
  have h1 : ∀ b : Bool, DotEffect s (if b then s.setPpu { s.ppu with status := s.ppu.status.set 6 } else s) := fun b =>
    .ite b (f := fun s => s.setPpu { s.ppu with status := s.ppu.status.set 6 })
      (setPpu_dotEffect ⟨rfl, rfl, rfl, rfl, rfl, rfl, rfl, rfl, rfl, rfl, rfl, rfl, rfl, rfl, rfl, rfl, rfl⟩)
  exact ((h1 _).trans (ppuRead_dotEffect _ _)).trans ⟨rfl, .refl _, rfl, rfl, rfl, rfl, .inl rfl⟩

theorem spriteFetchLo_effect (s : State) (i : Nat) : DotEffect s (spriteFetchLo s i) := by
  unfold spriteFetchLo
  split
  · exact (ppuRead_dotEffect s _).trans (setPpu_dotEffect (setSlot_kept _ _ _))
  · exact setPpu_dotEffect (setSlot_kept _ _ _)

theorem spriteFetchHi_effect (s : State) (i : Nat) : DotEffect s (spriteFetchHi s i) := by
  unfold spriteFetchHi
  split
  · exact (ppuRead_dotEffect s _).trans (setPpu_dotEffect (setSlot_kept _ _ _))
  · exact setPpu_dotEffect (setSlot_kept _ _ _)

theorem spriteFetch_effect (s : State) : DotEffect s (spriteFetch s) := by
  unfold spriteFetch
  simp only []
  split
  · exact setPpu_dotEffect (setSlot_kept _ _ _)
  · exact spriteFetchLo_effect s _
  · exact spriteFetchHi_effect s _
  · exact .refl s

/-- The sprite line commit and fetch (61 R460-R465). -/
theorem spriteLineDot_effect (r : Bool) (s : State) : DotEffect s (spriteLineDot r s) := by
  have h1 : DotEffect s (spriteCommitStage r s) := by
    unfold spriteCommitStage
    split
    · exact setPpu_dotEffect (spriteCommit_kept r s.ppu)
    · exact .refl s
  exact h1.trans (.ite _ (f := spriteFetch) (spriteFetch_effect _))

theorem dotS1_effect (s : State) : DotEffect s (dotS1 s) := setPpu_dotEffect (statusEvents_kept _)
theorem dotS2_effect (r : Bool) (s : State) : DotEffect s (dotS2 r s) := .ite _ (f := bgDot) (bgDot_effect s)
theorem dotS3_effect (r : Bool) (s : State) : DotEffect s (dotS3 r s) :=
  .ite _ (f := fun u => u.setPpu (shiftSprites u.ppu)) (setPpu_dotEffect (shiftSprites_kept _))
theorem dotS4_effect (s : State) : DotEffect s (dotS4 s) := .ite _ (f := compositeDot) (compositeDot_effect s)
theorem dotS5_effect (r : Bool) (s : State) : DotEffect s (dotS5 r s) :=
  .ite _ (f := fun u => u.setPpu (evalDot u.params.spriteSize r u.ppu)) (setPpu_dotEffect (evalDot_kept _ _ _))
theorem dotS6_effect (r : Bool) (s : State) : DotEffect s (dotS6 r s) :=
  .ite _ (f := spriteLineDot r) (spriteLineDot_effect r s)

/-- Steps S1-S6 of a dot (61 R421). -/
theorem dotBody_effect (r : Bool) (s : State) : DotEffect s (dotBody r s) :=
  (((((dotS1_effect s).trans (dotS2_effect r _)).trans (dotS3_effect r _)).trans (dotS4_effect _)).trans
    (dotS5_effect r _)).trans (dotS6_effect r _)

end Sys2Proof.Machine
end

