-- ==== Sys2Proof/Laws/Step.lean ====
section
/-! SUPPORT. The shape of a step (70 R520): the two CPU ticks of a system cycle are one acting tick, and what follows
the CPU's part is one function of the state. -/

namespace Sys2Proof.Machine

theorem andThen_next (s : State) (f : State → Result) : andThen (.next s) f = f s := rfl

theorem andThen_assoc (r : Result) (f g : State → Result) :
    andThen (andThen r f) g = andThen r fun s => andThen (f s) g := by
  cases r <;> rfl

/-- When a composition answers a next state. -/
theorem andThen_eq_next {r : Result} {f : State → Result} {t : State} :
    andThen r f = .next t ↔ ∃ u, r = .next u ∧ f u = .next t := by
  cases r <;> simp [andThen]

/-- From the rising phase two ticks are one acting tick (40 R220). -/
theorem cpuTick_cpuTick {s : State} (h : s.cpu.phase = .rise) : andThen (cpuTick s) cpuTick = actingTick s := by
  have h1 : cpuTick s = .next (s.setCpu { s.cpu with phase := .fall }) := by unfold cpuTick; rw [h]
  have h2 : (s.setCpu { s.cpu with phase := .fall }).setCpu
      { (s.setCpu { s.cpu with phase := .fall }).cpu with phase := .rise } = s := by
    show s.setCpu { s.cpu with phase := .rise } = s
    rw [← h]; rfl
  have h3 : cpuTick (s.setCpu { s.cpu with phase := .fall }) = actingTick
      ((s.setCpu { s.cpu with phase := .fall }).setCpu
        { (s.setCpu { s.cpu with phase := .fall }).cpu with phase := .rise }) := rfl
  rw [h1, andThen_next, h3, h2]

/-- The CPU's part of a system cycle: nothing while DMA is RUNNING, else one acting tick (70 R520, 20 R121). -/
theorem cpuPart_eq {s : State} (h : s.cpu.phase = .rise) :
    cpuPart s = if s.bus.dmaState = .running then .next s else actingTick s := by
  unfold cpuPart
  cases hd : s.bus.dmaState
  · exact cpuTick_cpuTick h
  · exact cpuTick_cpuTick h
  · rfl

/-- What follows the CPU's part: the DMA step, three dots, the cycle count (70 R520). -/
def afterCpu (s : State) : Result := finish (countCycle (ppuDots (dmaStep s)))

/-- A step from between system cycles. -/
theorem step_eq {s : State} (hr : s.refusal = none) (h : s.cpu.phase = .rise) :
    step s = if s.bus.dmaState = .running then afterCpu (sampleInputs s)
      else andThen (actingTick (sampleInputs s)) afterCpu := by
  have h1 : step s = andThen (cpuPart (sampleInputs s)) afterCpu := by
    unfold step stepFrom; rw [hr]; rfl
  rw [h1, cpuPart_eq (s := sampleInputs s) h]
  show andThen (if s.bus.dmaState = .running then _ else _) _ = _
  split <;> rfl

/-- A state marked refused has no next (00 R15). -/
theorem step_refused {s : State} {r : Refusal} (h : s.refusal = some r) : step s = .refused r := by
  unfold step stepFrom; rw [h]

end Sys2Proof.Machine
end

