-- ==== Sys2Proof/Laws/Cycle.lean ====
section
/-! SUPPORT. What the parts of a system cycle after the CPU can change: the DMA step, a dot with its commit, the three dots,
and the rest of the step as a whole (70 R520). -/

namespace Sys2Proof.Machine

/-- Composition of what two parts do to the refusal mark. -/
theorem refusal_trans {s t u : State} (hc : t.cart = s.cart)
    (h : t.refusal = s.refusal ∨ mirrorMode s.cart = .four ∧ t.refusal = some .fourScreenUnmodelled)
    (g : u.refusal = t.refusal ∨ mirrorMode t.cart = .four ∧ u.refusal = some .fourScreenUnmodelled) :
    u.refusal = s.refusal ∨ mirrorMode s.cart = .four ∧ u.refusal = some .fourScreenUnmodelled := by
  rcases g with q | q
  · rcases h with p | p
    · exact .inl (q.trans p)
    · exact .inr ⟨p.1, q.trans p.2⟩
  · exact .inr ⟨hc ▸ q.1, q.2⟩

/-- A write of the OAM data port (61 R428). -/
theorem memWrite_2004 (s : State) (v : Byte) : memWrite s 0x2004#16 v = s.setPpu (oamDataWrite s.ppu v) := by
  have h : mapperWriteCpu s.cart 0x2004#16 v = none := by
    unfold mapperWriteCpu
    rw [if_pos (by decide)]
  unfold memWrite
  rw [h]
  rfl

/-- What a DMA step can change (20 R118-R120). -/
structure DmaEffect (s t : State) : Prop where
  cpu     : t.cpu = s.cpu
  cart    : t.cart = s.cart
  params  : t.params = s.params
  out     : t.out = s.out
  bus     : t.bus = { s.bus with
    dmaState := t.bus.dmaState, dmaCount := t.bus.dmaCount, dmaData := t.bus.dmaData, dmaReadPhase := t.bus.dmaReadPhase }
  refusal : t.refusal = s.refusal ∨ mirrorMode s.cart = .four ∧ t.refusal = some .fourScreenUnmodelled

theorem dmaStep_effect (s : State) : DmaEffect s (dmaStep s) := by
  unfold dmaStep
  split
  · exact ⟨rfl, rfl, rfl, rfl, rfl, .inl rfl⟩
  · unfold dmaWait
    split <;> exact ⟨rfl, rfl, rfl, rfl, rfl, .inl rfl⟩
  · split
    · have e := memRead_effect s (s.bus.dmaBase + BitVec.ofNat 16 s.bus.dmaCount)
      refine ⟨e.cpu, e.cart, e.params, e.out, ?_, memRead_refusal _ _⟩
      simp only [dmaReadStep, State.setBus_bus, e.bus]
    · unfold dmaWriteStep
      rw [memWrite_2004]
      exact ⟨rfl, rfl, rfl, rfl, rfl, .inl rfl⟩

/-- The counter advance touches the position only (61 R422). -/
theorem advanceDot_kept (r : Bool) (p : Ppu) :
    advanceDot r p = { p with
      hCount := (advanceDot r p).hCount, vCount := (advanceDot r p).vCount, isEvenFrame := (advanceDot r p).isEvenFrame } := by
  unfold advanceDot
  simp only []
  repeat' split
  all_goals rfl

/-- The commit touches the clocked registers only (61 R420). -/
theorem ppuClockRegisters_kept (p : Ppu) :
    ppuClockRegisters p = { p with
      ctrl := (ppuClockRegisters p).ctrl, mask := (ppuClockRegisters p).mask, status := (ppuClockRegisters p).status
      oamAddrReg := (ppuClockRegisters p).oamAddrReg, oamDataReg := (ppuClockRegisters p).oamDataReg
      scrollReg := (ppuClockRegisters p).scrollReg, dataReg := (ppuClockRegisters p).dataReg } := by
  unfold ppuClockRegisters
  split <;> rfl

/-- The state in which the body of dot `j` runs (70 R520). -/
def dotStart (j : Nat) (s : State) : State := s.setPpu { s.ppu with ppuPhase := j }

/-- What follows the body of a dot: the NMI output, the counter advance and the commit call (61 R420, R421). -/
def dotFinish (r : Bool) (b : State) : State :=
  (dotS8 r (dotS7 b)).setPpu (ppuClockRegisters (dotS8 r (dotS7 b)).ppu)

theorem dotFinish_ppu (r : Bool) (b : State) : (dotFinish r b).ppu = ppuClockRegisters (advanceDot r b.ppu) := rfl

theorem dotFinish_bus (r : Bool) (b : State) : (dotFinish r b).bus = { b.bus with nmiLine := nmiLevel b.ppu } := rfl

/-- A dot of a system cycle: its body, then `dotFinish`; rendering enabled is read once, at the start. -/
theorem ppuDotAt_eq (j : Nat) (s : State) :
    ppuDotAt j s = dotFinish (renderingEnabled s.ppu) (dotBody (renderingEnabled s.ppu) (dotStart j s)) := rfl

theorem dotBodyAt_effect (j : Nat) (s : State) :
    DotEffect (dotStart j s) (dotBody (renderingEnabled s.ppu) (dotStart j s)) := dotBody_effect _ _

/-- What dots can change outside the PPU's pipelines. -/
structure DotsEffect (s t : State) : Prop where
  cpu      : t.cpu = s.cpu
  cart     : t.cart = s.cart
  params   : t.params = s.params
  ioWrites : t.out.ioWrites = s.out.ioWrites
  bus      : t.bus = { s.bus with nmiLine := t.bus.nmiLine }
  refusal  : t.refusal = s.refusal ∨ mirrorMode s.cart = .four ∧ t.refusal = some .fourScreenUnmodelled

theorem DotsEffect.trans {s t u : State} (h : DotsEffect s t) (g : DotsEffect t u) : DotsEffect s u :=
  ⟨g.cpu.trans h.cpu, g.cart.trans h.cart, g.params.trans h.params, g.ioWrites.trans h.ioWrites, by rw [g.bus, h.bus],
    refusal_trans h.cart h.refusal g.refusal⟩

theorem dotFinish_effect (r : Bool) (b : State) : DotsEffect b (dotFinish r b) := ⟨rfl, rfl, rfl, rfl, rfl, .inl rfl⟩

theorem ppuDotAt_effect (j : Nat) (s : State) : DotsEffect s (ppuDotAt j s) := by
  have e := dotBodyAt_effect j s
  rw [ppuDotAt_eq]
  generalize dotBody (renderingEnabled s.ppu) (dotStart j s) = b at e
  have f := dotFinish_effect (renderingEnabled s.ppu) b
  exact DotsEffect.trans ⟨e.cpu, e.cart, e.params, e.ioWrites, by rw [e.bus]; rfl, e.refusal⟩ f

theorem ppuDots_effect (s : State) : DotsEffect s (ppuDots s) :=
  ((ppuDotAt_effect 0 s).trans (ppuDotAt_effect 1 _)).trans (ppuDotAt_effect 2 _)

/-- What the DMA step, the dots and the cycle count leave alone. -/
structure AfterCpuEffect (s t : State) : Prop where
  cpu      : t.cpu = s.cpu
  cart     : t.cart = s.cart
  params   : t.params = s.params
  ram      : t.bus.ram = s.bus.ram
  busCycle : t.bus.busCycle = s.bus.busCycle + 1#64
  irqLine  : t.bus.irqLine = s.bus.irqLine
  ioWrites : t.out.ioWrites = s.out.ioWrites

/-- The step after the CPU answers with a state of that kind, or is refused under FOUR. -/
theorem afterCpu_effect (s : State) :
    ∃ u, afterCpu s = finish u ∧ AfterCpuEffect s u ∧
      (u.refusal = s.refusal ∨ mirrorMode s.cart = .four ∧ u.refusal = some .fourScreenUnmodelled) := by
  have d := dmaStep_effect s
  have e := ppuDots_effect (dmaStep s)
  unfold afterCpu
  generalize ppuDots (dmaStep s) = v at e
  generalize dmaStep s = w at d e
  refine ⟨countCycle v, rfl, ?_, refusal_trans d.cart d.refusal e.refusal⟩
  refine ⟨e.cpu.trans d.cpu, e.cart.trans d.cart, e.params.trans d.params, ?_, ?_, ?_,
    e.ioWrites.trans (congrArg Outputs.ioWrites d.out)⟩
  · show v.bus.ram = _
    rw [e.bus, d.bus]
  · show v.bus.busCycle + 1#64 = _
    rw [e.bus, d.bus]
  · show v.bus.irqLine = _
    rw [e.bus, d.bus]

theorem afterCpu_next {s t : State} (h : afterCpu s = .next t) : AfterCpuEffect s t ∧ t.refusal = none := by
  obtain ⟨u, hu, e, -⟩ := afterCpu_effect s
  obtain ⟨h1, rfl⟩ := finish_eq_next.mp (hu.symm.trans h)
  exact ⟨e, h1⟩

/-- A step that answers was not refused before it ran. -/
theorem refusal_none_of_step {s t : State} (h : step s = .next t) : s.refusal = none := by
  cases hr : s.refusal with
  | none => rfl
  | some r => rw [step_refused hr] at h; cases h

end Sys2Proof.Machine
end

