-- ==== Sys2Proof/Laws/PerInstr.lean ====
section
/-! SUPPORT. Per-instruction laws: the encoding of an instruction has the length of its addressing mode (30 R190, R191). -/

namespace Sys2Proof.Laws

/-- The instruction is well formed, and its bytes are as many as the map's mode of its first byte says (30 R191). -/
def Encoding.Statement (i : Instr) : Prop :=
  i.wellFormed = true ∧ (encode i).length = opLength (opcodeOf i)

theorem Encoding.brk : Encoding.Statement .brk := ⟨rfl, rfl⟩
theorem Encoding.oraIzx (v : Byte) : Encoding.Statement (.oraIzx v) := ⟨rfl, by show _ = opLength 0x01#8; rfl⟩
theorem Encoding.kil02 : Encoding.Statement .kil02 := ⟨rfl, rfl⟩
theorem Encoding.sloIzx (v : Byte) : Encoding.Statement (.sloIzx v) := ⟨rfl, by show _ = opLength 0x03#8; rfl⟩
theorem Encoding.nopZp004 (v : Byte) : Encoding.Statement (.nopZp004 v) := ⟨rfl, by show _ = opLength 0x04#8; rfl⟩
theorem Encoding.oraZp0 (v : Byte) : Encoding.Statement (.oraZp0 v) := ⟨rfl, by show _ = opLength 0x05#8; rfl⟩
theorem Encoding.aslZp0 (v : Byte) : Encoding.Statement (.aslZp0 v) := ⟨rfl, by show _ = opLength 0x06#8; rfl⟩
theorem Encoding.sloZp0 (v : Byte) : Encoding.Statement (.sloZp0 v) := ⟨rfl, by show _ = opLength 0x07#8; rfl⟩
theorem Encoding.php : Encoding.Statement .php := ⟨rfl, rfl⟩
theorem Encoding.oraImm (v : Byte) : Encoding.Statement (.oraImm v) := ⟨rfl, by show _ = opLength 0x09#8; rfl⟩
theorem Encoding.aslAcc : Encoding.Statement .aslAcc := ⟨rfl, rfl⟩
theorem Encoding.ancImm0B (v : Byte) : Encoding.Statement (.ancImm0B v) := ⟨rfl, by show _ = opLength 0x0B#8; rfl⟩
theorem Encoding.nopAbs0C (v : Word) : Encoding.Statement (.nopAbs0C v) := ⟨rfl, by show _ = opLength 0x0C#8; rfl⟩
theorem Encoding.oraAbs (v : Word) : Encoding.Statement (.oraAbs v) := ⟨rfl, by show _ = opLength 0x0D#8; rfl⟩
theorem Encoding.aslAbs (v : Word) : Encoding.Statement (.aslAbs v) := ⟨rfl, by show _ = opLength 0x0E#8; rfl⟩
theorem Encoding.sloAbs (v : Word) : Encoding.Statement (.sloAbs v) := ⟨rfl, by show _ = opLength 0x0F#8; rfl⟩
theorem Encoding.bpl (v : Byte) : Encoding.Statement (.bpl v) := ⟨rfl, by show _ = opLength 0x10#8; rfl⟩
theorem Encoding.oraIzy (v : Byte) : Encoding.Statement (.oraIzy v) := ⟨rfl, by show _ = opLength 0x11#8; rfl⟩
theorem Encoding.kil12 : Encoding.Statement .kil12 := ⟨rfl, rfl⟩
theorem Encoding.sloIzy (v : Byte) : Encoding.Statement (.sloIzy v) := ⟨rfl, by show _ = opLength 0x13#8; rfl⟩
theorem Encoding.nopZpx14 (v : Byte) : Encoding.Statement (.nopZpx14 v) := ⟨rfl, by show _ = opLength 0x14#8; rfl⟩
theorem Encoding.oraZpx (v : Byte) : Encoding.Statement (.oraZpx v) := ⟨rfl, by show _ = opLength 0x15#8; rfl⟩
theorem Encoding.aslZpx (v : Byte) : Encoding.Statement (.aslZpx v) := ⟨rfl, by show _ = opLength 0x16#8; rfl⟩
theorem Encoding.sloZpx (v : Byte) : Encoding.Statement (.sloZpx v) := ⟨rfl, by show _ = opLength 0x17#8; rfl⟩
theorem Encoding.clc : Encoding.Statement .clc := ⟨rfl, rfl⟩
theorem Encoding.oraAby (v : Word) : Encoding.Statement (.oraAby v) := ⟨rfl, by show _ = opLength 0x19#8; rfl⟩
theorem Encoding.nopImp1A : Encoding.Statement .nopImp1A := ⟨rfl, rfl⟩
theorem Encoding.sloAby (v : Word) : Encoding.Statement (.sloAby v) := ⟨rfl, by show _ = opLength 0x1B#8; rfl⟩
theorem Encoding.nopAbx1C (v : Word) : Encoding.Statement (.nopAbx1C v) := ⟨rfl, by show _ = opLength 0x1C#8; rfl⟩
theorem Encoding.oraAbx (v : Word) : Encoding.Statement (.oraAbx v) := ⟨rfl, by show _ = opLength 0x1D#8; rfl⟩
theorem Encoding.aslAbx (v : Word) : Encoding.Statement (.aslAbx v) := ⟨rfl, by show _ = opLength 0x1E#8; rfl⟩
theorem Encoding.sloAbx (v : Word) : Encoding.Statement (.sloAbx v) := ⟨rfl, by show _ = opLength 0x1F#8; rfl⟩
theorem Encoding.jsrAbs (v : Word) : Encoding.Statement (.jsrAbs v) := ⟨rfl, by show _ = opLength 0x20#8; rfl⟩
theorem Encoding.andIzx (v : Byte) : Encoding.Statement (.andIzx v) := ⟨rfl, by show _ = opLength 0x21#8; rfl⟩
theorem Encoding.kil22 : Encoding.Statement .kil22 := ⟨rfl, rfl⟩
theorem Encoding.rlaIzx (v : Byte) : Encoding.Statement (.rlaIzx v) := ⟨rfl, by show _ = opLength 0x23#8; rfl⟩
theorem Encoding.bitZp0 (v : Byte) : Encoding.Statement (.bitZp0 v) := ⟨rfl, by show _ = opLength 0x24#8; rfl⟩
theorem Encoding.andZp0 (v : Byte) : Encoding.Statement (.andZp0 v) := ⟨rfl, by show _ = opLength 0x25#8; rfl⟩
theorem Encoding.rolZp0 (v : Byte) : Encoding.Statement (.rolZp0 v) := ⟨rfl, by show _ = opLength 0x26#8; rfl⟩
theorem Encoding.rlaZp0 (v : Byte) : Encoding.Statement (.rlaZp0 v) := ⟨rfl, by show _ = opLength 0x27#8; rfl⟩
theorem Encoding.plp : Encoding.Statement .plp := ⟨rfl, rfl⟩
theorem Encoding.andImm (v : Byte) : Encoding.Statement (.andImm v) := ⟨rfl, by show _ = opLength 0x29#8; rfl⟩
theorem Encoding.rolAcc : Encoding.Statement .rolAcc := ⟨rfl, rfl⟩
theorem Encoding.ancImm2B (v : Byte) : Encoding.Statement (.ancImm2B v) := ⟨rfl, by show _ = opLength 0x2B#8; rfl⟩
theorem Encoding.bitAbs (v : Word) : Encoding.Statement (.bitAbs v) := ⟨rfl, by show _ = opLength 0x2C#8; rfl⟩
theorem Encoding.andAbs (v : Word) : Encoding.Statement (.andAbs v) := ⟨rfl, by show _ = opLength 0x2D#8; rfl⟩
theorem Encoding.rolAbs (v : Word) : Encoding.Statement (.rolAbs v) := ⟨rfl, by show _ = opLength 0x2E#8; rfl⟩
theorem Encoding.rlaAbs (v : Word) : Encoding.Statement (.rlaAbs v) := ⟨rfl, by show _ = opLength 0x2F#8; rfl⟩
theorem Encoding.bmi (v : Byte) : Encoding.Statement (.bmi v) := ⟨rfl, by show _ = opLength 0x30#8; rfl⟩
theorem Encoding.andIzy (v : Byte) : Encoding.Statement (.andIzy v) := ⟨rfl, by show _ = opLength 0x31#8; rfl⟩
theorem Encoding.kil32 : Encoding.Statement .kil32 := ⟨rfl, rfl⟩
theorem Encoding.rlaIzy (v : Byte) : Encoding.Statement (.rlaIzy v) := ⟨rfl, by show _ = opLength 0x33#8; rfl⟩
theorem Encoding.nopZpx34 (v : Byte) : Encoding.Statement (.nopZpx34 v) := ⟨rfl, by show _ = opLength 0x34#8; rfl⟩
theorem Encoding.andZpx (v : Byte) : Encoding.Statement (.andZpx v) := ⟨rfl, by show _ = opLength 0x35#8; rfl⟩
theorem Encoding.rolZpx (v : Byte) : Encoding.Statement (.rolZpx v) := ⟨rfl, by show _ = opLength 0x36#8; rfl⟩
theorem Encoding.rlaZpx (v : Byte) : Encoding.Statement (.rlaZpx v) := ⟨rfl, by show _ = opLength 0x37#8; rfl⟩
theorem Encoding.sec : Encoding.Statement .sec := ⟨rfl, rfl⟩
theorem Encoding.andAby (v : Word) : Encoding.Statement (.andAby v) := ⟨rfl, by show _ = opLength 0x39#8; rfl⟩
theorem Encoding.nopImp3A : Encoding.Statement .nopImp3A := ⟨rfl, rfl⟩
theorem Encoding.rlaAby (v : Word) : Encoding.Statement (.rlaAby v) := ⟨rfl, by show _ = opLength 0x3B#8; rfl⟩
theorem Encoding.nopAbx3C (v : Word) : Encoding.Statement (.nopAbx3C v) := ⟨rfl, by show _ = opLength 0x3C#8; rfl⟩
theorem Encoding.andAbx (v : Word) : Encoding.Statement (.andAbx v) := ⟨rfl, by show _ = opLength 0x3D#8; rfl⟩
theorem Encoding.rolAbx (v : Word) : Encoding.Statement (.rolAbx v) := ⟨rfl, by show _ = opLength 0x3E#8; rfl⟩
theorem Encoding.rlaAbx (v : Word) : Encoding.Statement (.rlaAbx v) := ⟨rfl, by show _ = opLength 0x3F#8; rfl⟩
theorem Encoding.rti : Encoding.Statement .rti := ⟨rfl, rfl⟩
theorem Encoding.eorIzx (v : Byte) : Encoding.Statement (.eorIzx v) := ⟨rfl, by show _ = opLength 0x41#8; rfl⟩
theorem Encoding.kil42 : Encoding.Statement .kil42 := ⟨rfl, rfl⟩
theorem Encoding.sreIzx (v : Byte) : Encoding.Statement (.sreIzx v) := ⟨rfl, by show _ = opLength 0x43#8; rfl⟩
theorem Encoding.nopZp044 (v : Byte) : Encoding.Statement (.nopZp044 v) := ⟨rfl, by show _ = opLength 0x44#8; rfl⟩
theorem Encoding.eorZp0 (v : Byte) : Encoding.Statement (.eorZp0 v) := ⟨rfl, by show _ = opLength 0x45#8; rfl⟩
theorem Encoding.lsrZp0 (v : Byte) : Encoding.Statement (.lsrZp0 v) := ⟨rfl, by show _ = opLength 0x46#8; rfl⟩
theorem Encoding.sreZp0 (v : Byte) : Encoding.Statement (.sreZp0 v) := ⟨rfl, by show _ = opLength 0x47#8; rfl⟩
theorem Encoding.pha : Encoding.Statement .pha := ⟨rfl, rfl⟩
theorem Encoding.eorImm (v : Byte) : Encoding.Statement (.eorImm v) := ⟨rfl, by show _ = opLength 0x49#8; rfl⟩
theorem Encoding.lsrAcc : Encoding.Statement .lsrAcc := ⟨rfl, rfl⟩
theorem Encoding.alrImm (v : Byte) : Encoding.Statement (.alrImm v) := ⟨rfl, by show _ = opLength 0x4B#8; rfl⟩
theorem Encoding.jmpAbs (v : Word) : Encoding.Statement (.jmpAbs v) := ⟨rfl, by show _ = opLength 0x4C#8; rfl⟩
theorem Encoding.eorAbs (v : Word) : Encoding.Statement (.eorAbs v) := ⟨rfl, by show _ = opLength 0x4D#8; rfl⟩
theorem Encoding.lsrAbs (v : Word) : Encoding.Statement (.lsrAbs v) := ⟨rfl, by show _ = opLength 0x4E#8; rfl⟩
theorem Encoding.sreAbs (v : Word) : Encoding.Statement (.sreAbs v) := ⟨rfl, by show _ = opLength 0x4F#8; rfl⟩
theorem Encoding.bvc (v : Byte) : Encoding.Statement (.bvc v) := ⟨rfl, by show _ = opLength 0x50#8; rfl⟩
theorem Encoding.eorIzy (v : Byte) : Encoding.Statement (.eorIzy v) := ⟨rfl, by show _ = opLength 0x51#8; rfl⟩
theorem Encoding.kil52 : Encoding.Statement .kil52 := ⟨rfl, rfl⟩
theorem Encoding.sreIzy (v : Byte) : Encoding.Statement (.sreIzy v) := ⟨rfl, by show _ = opLength 0x53#8; rfl⟩
theorem Encoding.nopZpx54 (v : Byte) : Encoding.Statement (.nopZpx54 v) := ⟨rfl, by show _ = opLength 0x54#8; rfl⟩
theorem Encoding.eorZpx (v : Byte) : Encoding.Statement (.eorZpx v) := ⟨rfl, by show _ = opLength 0x55#8; rfl⟩
theorem Encoding.lsrZpx (v : Byte) : Encoding.Statement (.lsrZpx v) := ⟨rfl, by show _ = opLength 0x56#8; rfl⟩
theorem Encoding.sreZpx (v : Byte) : Encoding.Statement (.sreZpx v) := ⟨rfl, by show _ = opLength 0x57#8; rfl⟩
theorem Encoding.cli : Encoding.Statement .cli := ⟨rfl, rfl⟩
theorem Encoding.eorAby (v : Word) : Encoding.Statement (.eorAby v) := ⟨rfl, by show _ = opLength 0x59#8; rfl⟩
theorem Encoding.nopImp5A : Encoding.Statement .nopImp5A := ⟨rfl, rfl⟩
theorem Encoding.sreAby (v : Word) : Encoding.Statement (.sreAby v) := ⟨rfl, by show _ = opLength 0x5B#8; rfl⟩
theorem Encoding.nopAbx5C (v : Word) : Encoding.Statement (.nopAbx5C v) := ⟨rfl, by show _ = opLength 0x5C#8; rfl⟩
theorem Encoding.eorAbx (v : Word) : Encoding.Statement (.eorAbx v) := ⟨rfl, by show _ = opLength 0x5D#8; rfl⟩
theorem Encoding.lsrAbx (v : Word) : Encoding.Statement (.lsrAbx v) := ⟨rfl, by show _ = opLength 0x5E#8; rfl⟩
theorem Encoding.sreAbx (v : Word) : Encoding.Statement (.sreAbx v) := ⟨rfl, by show _ = opLength 0x5F#8; rfl⟩
theorem Encoding.rts : Encoding.Statement .rts := ⟨rfl, rfl⟩
theorem Encoding.adcIzx (v : Byte) : Encoding.Statement (.adcIzx v) := ⟨rfl, by show _ = opLength 0x61#8; rfl⟩
theorem Encoding.kil62 : Encoding.Statement .kil62 := ⟨rfl, rfl⟩
theorem Encoding.rraIzx (v : Byte) : Encoding.Statement (.rraIzx v) := ⟨rfl, by show _ = opLength 0x63#8; rfl⟩
theorem Encoding.nopZp064 (v : Byte) : Encoding.Statement (.nopZp064 v) := ⟨rfl, by show _ = opLength 0x64#8; rfl⟩
theorem Encoding.adcZp0 (v : Byte) : Encoding.Statement (.adcZp0 v) := ⟨rfl, by show _ = opLength 0x65#8; rfl⟩
theorem Encoding.rorZp0 (v : Byte) : Encoding.Statement (.rorZp0 v) := ⟨rfl, by show _ = opLength 0x66#8; rfl⟩
theorem Encoding.rraZp0 (v : Byte) : Encoding.Statement (.rraZp0 v) := ⟨rfl, by show _ = opLength 0x67#8; rfl⟩
theorem Encoding.pla : Encoding.Statement .pla := ⟨rfl, rfl⟩
theorem Encoding.adcImm (v : Byte) : Encoding.Statement (.adcImm v) := ⟨rfl, by show _ = opLength 0x69#8; rfl⟩
theorem Encoding.rorAcc : Encoding.Statement .rorAcc := ⟨rfl, rfl⟩
theorem Encoding.arrImm (v : Byte) : Encoding.Statement (.arrImm v) := ⟨rfl, by show _ = opLength 0x6B#8; rfl⟩
theorem Encoding.jmpInd (v : Word) : Encoding.Statement (.jmpInd v) := ⟨rfl, by show _ = opLength 0x6C#8; rfl⟩
theorem Encoding.adcAbs (v : Word) : Encoding.Statement (.adcAbs v) := ⟨rfl, by show _ = opLength 0x6D#8; rfl⟩
theorem Encoding.rorAbs (v : Word) : Encoding.Statement (.rorAbs v) := ⟨rfl, by show _ = opLength 0x6E#8; rfl⟩
theorem Encoding.rraAbs (v : Word) : Encoding.Statement (.rraAbs v) := ⟨rfl, by show _ = opLength 0x6F#8; rfl⟩
theorem Encoding.bvs (v : Byte) : Encoding.Statement (.bvs v) := ⟨rfl, by show _ = opLength 0x70#8; rfl⟩
theorem Encoding.adcIzy (v : Byte) : Encoding.Statement (.adcIzy v) := ⟨rfl, by show _ = opLength 0x71#8; rfl⟩
theorem Encoding.kil72 : Encoding.Statement .kil72 := ⟨rfl, rfl⟩
theorem Encoding.rraIzy (v : Byte) : Encoding.Statement (.rraIzy v) := ⟨rfl, by show _ = opLength 0x73#8; rfl⟩
theorem Encoding.nopZpx74 (v : Byte) : Encoding.Statement (.nopZpx74 v) := ⟨rfl, by show _ = opLength 0x74#8; rfl⟩
theorem Encoding.adcZpx (v : Byte) : Encoding.Statement (.adcZpx v) := ⟨rfl, by show _ = opLength 0x75#8; rfl⟩
theorem Encoding.rorZpx (v : Byte) : Encoding.Statement (.rorZpx v) := ⟨rfl, by show _ = opLength 0x76#8; rfl⟩
theorem Encoding.rraZpx (v : Byte) : Encoding.Statement (.rraZpx v) := ⟨rfl, by show _ = opLength 0x77#8; rfl⟩
theorem Encoding.sei : Encoding.Statement .sei := ⟨rfl, rfl⟩
theorem Encoding.adcAby (v : Word) : Encoding.Statement (.adcAby v) := ⟨rfl, by show _ = opLength 0x79#8; rfl⟩
theorem Encoding.nopImp7A : Encoding.Statement .nopImp7A := ⟨rfl, rfl⟩
theorem Encoding.rraAby (v : Word) : Encoding.Statement (.rraAby v) := ⟨rfl, by show _ = opLength 0x7B#8; rfl⟩
theorem Encoding.nopAbx7C (v : Word) : Encoding.Statement (.nopAbx7C v) := ⟨rfl, by show _ = opLength 0x7C#8; rfl⟩
theorem Encoding.adcAbx (v : Word) : Encoding.Statement (.adcAbx v) := ⟨rfl, by show _ = opLength 0x7D#8; rfl⟩
theorem Encoding.rorAbx (v : Word) : Encoding.Statement (.rorAbx v) := ⟨rfl, by show _ = opLength 0x7E#8; rfl⟩
theorem Encoding.rraAbx (v : Word) : Encoding.Statement (.rraAbx v) := ⟨rfl, by show _ = opLength 0x7F#8; rfl⟩
theorem Encoding.nopImm80 (v : Byte) : Encoding.Statement (.nopImm80 v) := ⟨rfl, by show _ = opLength 0x80#8; rfl⟩
theorem Encoding.staIzx (v : Byte) : Encoding.Statement (.staIzx v) := ⟨rfl, by show _ = opLength 0x81#8; rfl⟩
theorem Encoding.nopImm82 (v : Byte) : Encoding.Statement (.nopImm82 v) := ⟨rfl, by show _ = opLength 0x82#8; rfl⟩
theorem Encoding.saxIzx (v : Byte) : Encoding.Statement (.saxIzx v) := ⟨rfl, by show _ = opLength 0x83#8; rfl⟩
theorem Encoding.styZp0 (v : Byte) : Encoding.Statement (.styZp0 v) := ⟨rfl, by show _ = opLength 0x84#8; rfl⟩
theorem Encoding.staZp0 (v : Byte) : Encoding.Statement (.staZp0 v) := ⟨rfl, by show _ = opLength 0x85#8; rfl⟩
theorem Encoding.stxZp0 (v : Byte) : Encoding.Statement (.stxZp0 v) := ⟨rfl, by show _ = opLength 0x86#8; rfl⟩
theorem Encoding.saxZp0 (v : Byte) : Encoding.Statement (.saxZp0 v) := ⟨rfl, by show _ = opLength 0x87#8; rfl⟩
theorem Encoding.dey : Encoding.Statement .dey := ⟨rfl, rfl⟩
theorem Encoding.nopImm89 (v : Byte) : Encoding.Statement (.nopImm89 v) := ⟨rfl, by show _ = opLength 0x89#8; rfl⟩
theorem Encoding.txa : Encoding.Statement .txa := ⟨rfl, rfl⟩
theorem Encoding.xaaImm (v : Byte) : Encoding.Statement (.xaaImm v) := ⟨rfl, by show _ = opLength 0x8B#8; rfl⟩
theorem Encoding.styAbs (v : Word) : Encoding.Statement (.styAbs v) := ⟨rfl, by show _ = opLength 0x8C#8; rfl⟩
theorem Encoding.staAbs (v : Word) : Encoding.Statement (.staAbs v) := ⟨rfl, by show _ = opLength 0x8D#8; rfl⟩
theorem Encoding.stxAbs (v : Word) : Encoding.Statement (.stxAbs v) := ⟨rfl, by show _ = opLength 0x8E#8; rfl⟩
theorem Encoding.saxAbs (v : Word) : Encoding.Statement (.saxAbs v) := ⟨rfl, by show _ = opLength 0x8F#8; rfl⟩
theorem Encoding.bcc (v : Byte) : Encoding.Statement (.bcc v) := ⟨rfl, by show _ = opLength 0x90#8; rfl⟩
theorem Encoding.staIzy (v : Byte) : Encoding.Statement (.staIzy v) := ⟨rfl, by show _ = opLength 0x91#8; rfl⟩
theorem Encoding.kil92 : Encoding.Statement .kil92 := ⟨rfl, rfl⟩
theorem Encoding.ahxIzy (v : Byte) : Encoding.Statement (.ahxIzy v) := ⟨rfl, by show _ = opLength 0x93#8; rfl⟩
theorem Encoding.styZpx (v : Byte) : Encoding.Statement (.styZpx v) := ⟨rfl, by show _ = opLength 0x94#8; rfl⟩
theorem Encoding.staZpx (v : Byte) : Encoding.Statement (.staZpx v) := ⟨rfl, by show _ = opLength 0x95#8; rfl⟩
theorem Encoding.stxZpy (v : Byte) : Encoding.Statement (.stxZpy v) := ⟨rfl, by show _ = opLength 0x96#8; rfl⟩
theorem Encoding.saxZpy (v : Byte) : Encoding.Statement (.saxZpy v) := ⟨rfl, by show _ = opLength 0x97#8; rfl⟩
theorem Encoding.tya : Encoding.Statement .tya := ⟨rfl, rfl⟩
theorem Encoding.staAby (v : Word) : Encoding.Statement (.staAby v) := ⟨rfl, by show _ = opLength 0x99#8; rfl⟩
theorem Encoding.txs : Encoding.Statement .txs := ⟨rfl, rfl⟩
theorem Encoding.tasAby (v : Word) : Encoding.Statement (.tasAby v) := ⟨rfl, by show _ = opLength 0x9B#8; rfl⟩
theorem Encoding.shyAbx (v : Word) : Encoding.Statement (.shyAbx v) := ⟨rfl, by show _ = opLength 0x9C#8; rfl⟩
theorem Encoding.staAbx (v : Word) : Encoding.Statement (.staAbx v) := ⟨rfl, by show _ = opLength 0x9D#8; rfl⟩
theorem Encoding.shxAby (v : Word) : Encoding.Statement (.shxAby v) := ⟨rfl, by show _ = opLength 0x9E#8; rfl⟩
theorem Encoding.ahxAby (v : Word) : Encoding.Statement (.ahxAby v) := ⟨rfl, by show _ = opLength 0x9F#8; rfl⟩
theorem Encoding.ldyImm (v : Byte) : Encoding.Statement (.ldyImm v) := ⟨rfl, by show _ = opLength 0xA0#8; rfl⟩
theorem Encoding.ldaIzx (v : Byte) : Encoding.Statement (.ldaIzx v) := ⟨rfl, by show _ = opLength 0xA1#8; rfl⟩
theorem Encoding.ldxImm (v : Byte) : Encoding.Statement (.ldxImm v) := ⟨rfl, by show _ = opLength 0xA2#8; rfl⟩
theorem Encoding.laxIzx (v : Byte) : Encoding.Statement (.laxIzx v) := ⟨rfl, by show _ = opLength 0xA3#8; rfl⟩
theorem Encoding.ldyZp0 (v : Byte) : Encoding.Statement (.ldyZp0 v) := ⟨rfl, by show _ = opLength 0xA4#8; rfl⟩
theorem Encoding.ldaZp0 (v : Byte) : Encoding.Statement (.ldaZp0 v) := ⟨rfl, by show _ = opLength 0xA5#8; rfl⟩
theorem Encoding.ldxZp0 (v : Byte) : Encoding.Statement (.ldxZp0 v) := ⟨rfl, by show _ = opLength 0xA6#8; rfl⟩
theorem Encoding.laxZp0 (v : Byte) : Encoding.Statement (.laxZp0 v) := ⟨rfl, by show _ = opLength 0xA7#8; rfl⟩
theorem Encoding.tay : Encoding.Statement .tay := ⟨rfl, rfl⟩
theorem Encoding.ldaImm (v : Byte) : Encoding.Statement (.ldaImm v) := ⟨rfl, by show _ = opLength 0xA9#8; rfl⟩
theorem Encoding.tax : Encoding.Statement .tax := ⟨rfl, rfl⟩
theorem Encoding.laxImm (v : Byte) : Encoding.Statement (.laxImm v) := ⟨rfl, by show _ = opLength 0xAB#8; rfl⟩
theorem Encoding.ldyAbs (v : Word) : Encoding.Statement (.ldyAbs v) := ⟨rfl, by show _ = opLength 0xAC#8; rfl⟩
theorem Encoding.ldaAbs (v : Word) : Encoding.Statement (.ldaAbs v) := ⟨rfl, by show _ = opLength 0xAD#8; rfl⟩
theorem Encoding.ldxAbs (v : Word) : Encoding.Statement (.ldxAbs v) := ⟨rfl, by show _ = opLength 0xAE#8; rfl⟩
theorem Encoding.laxAbs (v : Word) : Encoding.Statement (.laxAbs v) := ⟨rfl, by show _ = opLength 0xAF#8; rfl⟩
theorem Encoding.bcs (v : Byte) : Encoding.Statement (.bcs v) := ⟨rfl, by show _ = opLength 0xB0#8; rfl⟩
theorem Encoding.ldaIzy (v : Byte) : Encoding.Statement (.ldaIzy v) := ⟨rfl, by show _ = opLength 0xB1#8; rfl⟩
theorem Encoding.kilB2 : Encoding.Statement .kilB2 := ⟨rfl, rfl⟩
theorem Encoding.laxIzy (v : Byte) : Encoding.Statement (.laxIzy v) := ⟨rfl, by show _ = opLength 0xB3#8; rfl⟩
theorem Encoding.ldyZpx (v : Byte) : Encoding.Statement (.ldyZpx v) := ⟨rfl, by show _ = opLength 0xB4#8; rfl⟩
theorem Encoding.ldaZpx (v : Byte) : Encoding.Statement (.ldaZpx v) := ⟨rfl, by show _ = opLength 0xB5#8; rfl⟩
theorem Encoding.ldxZpy (v : Byte) : Encoding.Statement (.ldxZpy v) := ⟨rfl, by show _ = opLength 0xB6#8; rfl⟩
theorem Encoding.laxZpy (v : Byte) : Encoding.Statement (.laxZpy v) := ⟨rfl, by show _ = opLength 0xB7#8; rfl⟩
theorem Encoding.clv : Encoding.Statement .clv := ⟨rfl, rfl⟩
theorem Encoding.ldaAby (v : Word) : Encoding.Statement (.ldaAby v) := ⟨rfl, by show _ = opLength 0xB9#8; rfl⟩
theorem Encoding.tsx : Encoding.Statement .tsx := ⟨rfl, rfl⟩
theorem Encoding.lasAby (v : Word) : Encoding.Statement (.lasAby v) := ⟨rfl, by show _ = opLength 0xBB#8; rfl⟩
theorem Encoding.ldyAbx (v : Word) : Encoding.Statement (.ldyAbx v) := ⟨rfl, by show _ = opLength 0xBC#8; rfl⟩
theorem Encoding.ldaAbx (v : Word) : Encoding.Statement (.ldaAbx v) := ⟨rfl, by show _ = opLength 0xBD#8; rfl⟩
theorem Encoding.ldxAby (v : Word) : Encoding.Statement (.ldxAby v) := ⟨rfl, by show _ = opLength 0xBE#8; rfl⟩
theorem Encoding.laxAby (v : Word) : Encoding.Statement (.laxAby v) := ⟨rfl, by show _ = opLength 0xBF#8; rfl⟩
theorem Encoding.cpyImm (v : Byte) : Encoding.Statement (.cpyImm v) := ⟨rfl, by show _ = opLength 0xC0#8; rfl⟩
theorem Encoding.cmpIzx (v : Byte) : Encoding.Statement (.cmpIzx v) := ⟨rfl, by show _ = opLength 0xC1#8; rfl⟩
theorem Encoding.nopImmC2 (v : Byte) : Encoding.Statement (.nopImmC2 v) := ⟨rfl, by show _ = opLength 0xC2#8; rfl⟩
theorem Encoding.dcpIzx (v : Byte) : Encoding.Statement (.dcpIzx v) := ⟨rfl, by show _ = opLength 0xC3#8; rfl⟩
theorem Encoding.cpyZp0 (v : Byte) : Encoding.Statement (.cpyZp0 v) := ⟨rfl, by show _ = opLength 0xC4#8; rfl⟩
theorem Encoding.cmpZp0 (v : Byte) : Encoding.Statement (.cmpZp0 v) := ⟨rfl, by show _ = opLength 0xC5#8; rfl⟩
theorem Encoding.decZp0 (v : Byte) : Encoding.Statement (.decZp0 v) := ⟨rfl, by show _ = opLength 0xC6#8; rfl⟩
theorem Encoding.dcpZp0 (v : Byte) : Encoding.Statement (.dcpZp0 v) := ⟨rfl, by show _ = opLength 0xC7#8; rfl⟩
theorem Encoding.iny : Encoding.Statement .iny := ⟨rfl, rfl⟩
theorem Encoding.cmpImm (v : Byte) : Encoding.Statement (.cmpImm v) := ⟨rfl, by show _ = opLength 0xC9#8; rfl⟩
theorem Encoding.dex : Encoding.Statement .dex := ⟨rfl, rfl⟩
theorem Encoding.axsImm (v : Byte) : Encoding.Statement (.axsImm v) := ⟨rfl, by show _ = opLength 0xCB#8; rfl⟩
theorem Encoding.cpyAbs (v : Word) : Encoding.Statement (.cpyAbs v) := ⟨rfl, by show _ = opLength 0xCC#8; rfl⟩
theorem Encoding.cmpAbs (v : Word) : Encoding.Statement (.cmpAbs v) := ⟨rfl, by show _ = opLength 0xCD#8; rfl⟩
theorem Encoding.decAbs (v : Word) : Encoding.Statement (.decAbs v) := ⟨rfl, by show _ = opLength 0xCE#8; rfl⟩
theorem Encoding.dcpAbs (v : Word) : Encoding.Statement (.dcpAbs v) := ⟨rfl, by show _ = opLength 0xCF#8; rfl⟩
theorem Encoding.bne (v : Byte) : Encoding.Statement (.bne v) := ⟨rfl, by show _ = opLength 0xD0#8; rfl⟩
theorem Encoding.cmpIzy (v : Byte) : Encoding.Statement (.cmpIzy v) := ⟨rfl, by show _ = opLength 0xD1#8; rfl⟩
theorem Encoding.kilD2 : Encoding.Statement .kilD2 := ⟨rfl, rfl⟩
theorem Encoding.dcpIzy (v : Byte) : Encoding.Statement (.dcpIzy v) := ⟨rfl, by show _ = opLength 0xD3#8; rfl⟩
theorem Encoding.nopZpxD4 (v : Byte) : Encoding.Statement (.nopZpxD4 v) := ⟨rfl, by show _ = opLength 0xD4#8; rfl⟩
theorem Encoding.cmpZpx (v : Byte) : Encoding.Statement (.cmpZpx v) := ⟨rfl, by show _ = opLength 0xD5#8; rfl⟩
theorem Encoding.decZpx (v : Byte) : Encoding.Statement (.decZpx v) := ⟨rfl, by show _ = opLength 0xD6#8; rfl⟩
theorem Encoding.dcpZpx (v : Byte) : Encoding.Statement (.dcpZpx v) := ⟨rfl, by show _ = opLength 0xD7#8; rfl⟩
theorem Encoding.cld : Encoding.Statement .cld := ⟨rfl, rfl⟩
theorem Encoding.cmpAby (v : Word) : Encoding.Statement (.cmpAby v) := ⟨rfl, by show _ = opLength 0xD9#8; rfl⟩
theorem Encoding.nopImpDA : Encoding.Statement .nopImpDA := ⟨rfl, rfl⟩
theorem Encoding.dcpAby (v : Word) : Encoding.Statement (.dcpAby v) := ⟨rfl, by show _ = opLength 0xDB#8; rfl⟩
theorem Encoding.nopAbxDC (v : Word) : Encoding.Statement (.nopAbxDC v) := ⟨rfl, by show _ = opLength 0xDC#8; rfl⟩
theorem Encoding.cmpAbx (v : Word) : Encoding.Statement (.cmpAbx v) := ⟨rfl, by show _ = opLength 0xDD#8; rfl⟩
theorem Encoding.decAbx (v : Word) : Encoding.Statement (.decAbx v) := ⟨rfl, by show _ = opLength 0xDE#8; rfl⟩
theorem Encoding.dcpAbx (v : Word) : Encoding.Statement (.dcpAbx v) := ⟨rfl, by show _ = opLength 0xDF#8; rfl⟩
theorem Encoding.cpxImm (v : Byte) : Encoding.Statement (.cpxImm v) := ⟨rfl, by show _ = opLength 0xE0#8; rfl⟩
theorem Encoding.sbcIzx (v : Byte) : Encoding.Statement (.sbcIzx v) := ⟨rfl, by show _ = opLength 0xE1#8; rfl⟩
theorem Encoding.nopImmE2 (v : Byte) : Encoding.Statement (.nopImmE2 v) := ⟨rfl, by show _ = opLength 0xE2#8; rfl⟩
theorem Encoding.iscIzx (v : Byte) : Encoding.Statement (.iscIzx v) := ⟨rfl, by show _ = opLength 0xE3#8; rfl⟩
theorem Encoding.cpxZp0 (v : Byte) : Encoding.Statement (.cpxZp0 v) := ⟨rfl, by show _ = opLength 0xE4#8; rfl⟩
theorem Encoding.sbcZp0 (v : Byte) : Encoding.Statement (.sbcZp0 v) := ⟨rfl, by show _ = opLength 0xE5#8; rfl⟩
theorem Encoding.incZp0 (v : Byte) : Encoding.Statement (.incZp0 v) := ⟨rfl, by show _ = opLength 0xE6#8; rfl⟩
theorem Encoding.iscZp0 (v : Byte) : Encoding.Statement (.iscZp0 v) := ⟨rfl, by show _ = opLength 0xE7#8; rfl⟩
theorem Encoding.inx : Encoding.Statement .inx := ⟨rfl, rfl⟩
theorem Encoding.sbcImm (v : Byte) : Encoding.Statement (.sbcImm v) := ⟨rfl, by show _ = opLength 0xE9#8; rfl⟩
theorem Encoding.nop : Encoding.Statement .nop := ⟨rfl, rfl⟩
theorem Encoding.sbcImmEB (v : Byte) : Encoding.Statement (.sbcImmEB v) := ⟨rfl, by show _ = opLength 0xEB#8; rfl⟩
theorem Encoding.cpxAbs (v : Word) : Encoding.Statement (.cpxAbs v) := ⟨rfl, by show _ = opLength 0xEC#8; rfl⟩
theorem Encoding.sbcAbs (v : Word) : Encoding.Statement (.sbcAbs v) := ⟨rfl, by show _ = opLength 0xED#8; rfl⟩
theorem Encoding.incAbs (v : Word) : Encoding.Statement (.incAbs v) := ⟨rfl, by show _ = opLength 0xEE#8; rfl⟩
theorem Encoding.iscAbs (v : Word) : Encoding.Statement (.iscAbs v) := ⟨rfl, by show _ = opLength 0xEF#8; rfl⟩
theorem Encoding.beq (v : Byte) : Encoding.Statement (.beq v) := ⟨rfl, by show _ = opLength 0xF0#8; rfl⟩
theorem Encoding.sbcIzy (v : Byte) : Encoding.Statement (.sbcIzy v) := ⟨rfl, by show _ = opLength 0xF1#8; rfl⟩
theorem Encoding.kilF2 : Encoding.Statement .kilF2 := ⟨rfl, rfl⟩
theorem Encoding.iscIzy (v : Byte) : Encoding.Statement (.iscIzy v) := ⟨rfl, by show _ = opLength 0xF3#8; rfl⟩
theorem Encoding.nopZpxF4 (v : Byte) : Encoding.Statement (.nopZpxF4 v) := ⟨rfl, by show _ = opLength 0xF4#8; rfl⟩
theorem Encoding.sbcZpx (v : Byte) : Encoding.Statement (.sbcZpx v) := ⟨rfl, by show _ = opLength 0xF5#8; rfl⟩
theorem Encoding.incZpx (v : Byte) : Encoding.Statement (.incZpx v) := ⟨rfl, by show _ = opLength 0xF6#8; rfl⟩
theorem Encoding.iscZpx (v : Byte) : Encoding.Statement (.iscZpx v) := ⟨rfl, by show _ = opLength 0xF7#8; rfl⟩
theorem Encoding.sed : Encoding.Statement .sed := ⟨rfl, rfl⟩
theorem Encoding.sbcAby (v : Word) : Encoding.Statement (.sbcAby v) := ⟨rfl, by show _ = opLength 0xF9#8; rfl⟩
theorem Encoding.nopImpFA : Encoding.Statement .nopImpFA := ⟨rfl, rfl⟩
theorem Encoding.iscAby (v : Word) : Encoding.Statement (.iscAby v) := ⟨rfl, by show _ = opLength 0xFB#8; rfl⟩
theorem Encoding.nopAbxFC (v : Word) : Encoding.Statement (.nopAbxFC v) := ⟨rfl, by show _ = opLength 0xFC#8; rfl⟩
theorem Encoding.sbcAbx (v : Word) : Encoding.Statement (.sbcAbx v) := ⟨rfl, by show _ = opLength 0xFD#8; rfl⟩
theorem Encoding.incAbx (v : Word) : Encoding.Statement (.incAbx v) := ⟨rfl, by show _ = opLength 0xFE#8; rfl⟩
theorem Encoding.iscAbx (v : Word) : Encoding.Statement (.iscAbx v) := ⟨rfl, by show _ = opLength 0xFF#8; rfl⟩

end Sys2Proof.Laws
end

