-- ==== Sys2Proof/Laws/Pipeline.lean ====
section
/-! SUPPORT. Which step of a dot touches which part of the PPU's pipelines (61 R421): the background registers change in
S2 alone, the sprite evaluation in S5 alone, the sprite line in S3 and S6 alone, the pixel output in S4 alone, the
staged Status in S1 and S4 alone. -/

namespace Sys2Proof.Machine

/-- The background pipeline's registers (10 R49, R53) are the same. -/
structure BgSame (p q : Ppu) : Prop where
  v            : q.v = p.v
  bgPatLo      : q.bgPatLo = p.bgPatLo
  bgPatHi      : q.bgPatHi = p.bgPatHi
  bgAttLo      : q.bgAttLo = p.bgAttLo
  bgAttHi      : q.bgAttHi = p.bgAttHi
  nextTileId   : q.nextTileId = p.nextTileId
  nextTileAttr : q.nextTileAttr = p.nextTileAttr
  nextTileLo   : q.nextTileLo = p.nextTileLo
  nextTileHi   : q.nextTileHi = p.nextTileHi

/-- The sprite evaluation's state (10 R55) is the same. -/
structure EvalSame (p q : Ppu) : Prop where
  secOam    : q.secOam = p.secOam
  evalState : q.evalState = p.evalState
  evalN     : q.evalN = p.evalN
  evalM     : q.evalM = p.evalM
  evalFound : q.evalFound = p.evalFound
  evalLatch : q.evalLatch = p.evalLatch
  spr0Next  : q.spr0Next = p.spr0Next

/-- The sprite line (10 R56) is the same. -/
structure LineSame (p q : Ppu) : Prop where
  sprites    : q.sprites = p.sprites
  sprCount   : q.sprCount = p.sprCount
  spr0InLine : q.spr0InLine = p.spr0InLine

theorem BgSame.refl (p : Ppu) : BgSame p p := ⟨rfl, rfl, rfl, rfl, rfl, rfl, rfl, rfl, rfl⟩
theorem EvalSame.refl (p : Ppu) : EvalSame p p := ⟨rfl, rfl, rfl, rfl, rfl, rfl, rfl⟩
theorem LineSame.refl (p : Ppu) : LineSame p p := ⟨rfl, rfl, rfl⟩

theorem BgSame.trans {p q r : Ppu} (h : BgSame p q) (g : BgSame q r) : BgSame p r :=
  ⟨g.v.trans h.v, g.bgPatLo.trans h.bgPatLo, g.bgPatHi.trans h.bgPatHi, g.bgAttLo.trans h.bgAttLo,
    g.bgAttHi.trans h.bgAttHi, g.nextTileId.trans h.nextTileId, g.nextTileAttr.trans h.nextTileAttr,
    g.nextTileLo.trans h.nextTileLo, g.nextTileHi.trans h.nextTileHi⟩
theorem EvalSame.trans {p q r : Ppu} (h : EvalSame p q) (g : EvalSame q r) : EvalSame p r :=
  ⟨g.secOam.trans h.secOam, g.evalState.trans h.evalState, g.evalN.trans h.evalN, g.evalM.trans h.evalM,
    g.evalFound.trans h.evalFound, g.evalLatch.trans h.evalLatch, g.spr0Next.trans h.spr0Next⟩
theorem LineSame.trans {p q r : Ppu} (h : LineSame p q) (g : LineSame q r) : LineSame p r :=
  ⟨g.sprites.trans h.sprites, g.sprCount.trans h.sprCount, g.spr0InLine.trans h.spr0InLine⟩

/-- A stage under a condition keeps what it keeps when it runs. -/
theorem kept_ite {R : Ppu → Ppu → Prop} (hr : ∀ p, R p p) (b : Bool) {f : State → State} {s : State}
    (h : R s.ppu (f s).ppu) : R s.ppu (if b then f s else s).ppu := by
  cases b
  · exact hr _
  · exact h

/-! ## The steps that leave the background registers alone -/

theorem dotS1_bg (s : State) : BgSame s.ppu (dotS1 s).ppu := by
  show BgSame s.ppu (statusEvents s.ppu)
  unfold statusEvents
  repeat' split
  all_goals exact ⟨rfl, rfl, rfl, rfl, rfl, rfl, rfl, rfl, rfl⟩

theorem dotS3_bg (r : Bool) (s : State) : BgSame s.ppu (dotS3 r s).ppu :=
  kept_ite BgSame.refl _ (f := fun s => s.setPpu (shiftSprites s.ppu)) ⟨rfl, rfl, rfl, rfl, rfl, rfl, rfl, rfl, rfl⟩

/-- Compositing changes Status at most (61 R470, R473). -/
theorem compositeDot_ppu (s : State) :
    (compositeDot s).ppu = s.ppu ∨ (compositeDot s).ppu = { s.ppu with status := s.ppu.status.set 6 } := by
  unfold compositeDot
  simp only []
  split
  · exact .inr (ppuRead_ppu _ _)
  · exact .inl (ppuRead_ppu _ _)

theorem dotS4_same (s : State) :
    BgSame s.ppu (dotS4 s).ppu ∧ EvalSame s.ppu (dotS4 s).ppu ∧ LineSame s.ppu (dotS4 s).ppu := by
  unfold dotS4
  split
  · rcases compositeDot_ppu s with h | h <;> rw [h] <;> exact ⟨⟨rfl, rfl, rfl, rfl, rfl, rfl, rfl, rfl, rfl⟩, ⟨rfl, rfl, rfl, rfl, rfl, rfl, rfl⟩, ⟨rfl, rfl, rfl⟩⟩
  · exact ⟨.refl _, .refl _, .refl _⟩

theorem evalRead_same (p : Ppu) : BgSame p (evalRead p) ∧ LineSame p (evalRead p) := by
  unfold evalRead
  split <;> exact ⟨⟨rfl, rfl, rfl, rfl, rfl, rfl, rfl, rfl, rfl⟩, ⟨rfl, rfl, rfl⟩⟩

theorem evalDot_same (m : SpriteSizeMode) (r : Bool) (p : Ppu) :
    BgSame p (evalDot m r p) ∧ LineSame p (evalDot m r p) := by
  unfold evalDot evalReset setSecOam evalStep evalNewSprite evalCopySprite evalOverflow setSecOam
  simp only []
  repeat' split
  all_goals first
    | exact ⟨⟨rfl, rfl, rfl, rfl, rfl, rfl, rfl, rfl, rfl⟩, ⟨rfl, rfl, rfl⟩⟩
    | exact evalRead_same p

theorem dotS5_same (r : Bool) (s : State) : BgSame s.ppu (dotS5 r s).ppu ∧ LineSame s.ppu (dotS5 r s).ppu := by
  unfold dotS5
  split
  · exact evalDot_same _ _ _
  · exact ⟨.refl _, .refl _⟩

/-- The sprite line's commit and fetch touch the sprite line alone. -/
theorem spriteLineDot_same (r : Bool) (s : State) :
    BgSame s.ppu (spriteLineDot r s).ppu ∧ EvalSame s.ppu (spriteLineDot r s).ppu := by
  have hc : BgSame s.ppu (spriteCommitStage r s).ppu ∧ EvalSame s.ppu (spriteCommitStage r s).ppu := by
    unfold spriteCommitStage spriteCommit
    repeat' split
    all_goals exact ⟨⟨rfl, rfl, rfl, rfl, rfl, rfl, rfl, rfl, rfl⟩, ⟨rfl, rfl, rfl, rfl, rfl, rfl, rfl⟩⟩
  have hf : ∀ u : State, BgSame u.ppu (spriteFetch u).ppu ∧ EvalSame u.ppu (spriteFetch u).ppu := by
    intro u
    unfold spriteFetch spriteFetchLo spriteFetchHi spriteFetchAttr setSlot
    simp only []
    repeat' split
    all_goals first
      | exact ⟨⟨rfl, rfl, rfl, rfl, rfl, rfl, rfl, rfl, rfl⟩, ⟨rfl, rfl, rfl, rfl, rfl, rfl, rfl⟩⟩
      | exact ⟨⟨rfl, rfl, rfl, rfl, rfl, rfl, rfl, rfl, rfl⟩, ⟨rfl, rfl, rfl, rfl, rfl, rfl, rfl⟩⟩
      | (simp only [State.setPpu, ppuRead_ppu]
         exact ⟨⟨rfl, rfl, rfl, rfl, rfl, rfl, rfl, rfl, rfl⟩, ⟨rfl, rfl, rfl, rfl, rfl, rfl, rfl⟩⟩)
  unfold spriteLineDot spriteFetchStage
  split
  · exact ⟨hc.1.trans (hf _).1, hc.2.trans (hf _).2⟩
  · exact hc

theorem dotS6_same (r : Bool) (s : State) : BgSame s.ppu (dotS6 r s).ppu ∧ EvalSame s.ppu (dotS6 r s).ppu := by
  unfold dotS6
  split
  · exact spriteLineDot_same _ _
  · exact ⟨.refl _, .refl _⟩

/-! ## The steps that leave the evaluation and the sprite line alone -/

theorem dotS1_eval (s : State) : EvalSame s.ppu (dotS1 s).ppu ∧ LineSame s.ppu (dotS1 s).ppu := by
  show EvalSame s.ppu (statusEvents s.ppu) ∧ LineSame s.ppu (statusEvents s.ppu)
  unfold statusEvents
  repeat' split
  all_goals exact ⟨⟨rfl, rfl, rfl, rfl, rfl, rfl, rfl⟩, ⟨rfl, rfl, rfl⟩⟩

theorem bgDot_same (s : State) : EvalSame s.ppu (bgDot s).ppu ∧ LineSame s.ppu (bgDot s).ppu := by
  have h1 : EvalSame s.ppu (bgShiftStage s).ppu ∧ LineSame s.ppu (bgShiftStage s).ppu := by
    unfold bgShiftStage bgShift
    split <;> exact ⟨⟨rfl, rfl, rfl, rfl, rfl, rfl, rfl⟩, ⟨rfl, rfl, rfl⟩⟩
  have h2 : ∀ u, EvalSame u.ppu (bgReloadStage u).ppu ∧ LineSame u.ppu (bgReloadStage u).ppu := by
    intro u
    unfold bgReloadStage bgReload
    split <;> exact ⟨⟨rfl, rfl, rfl, rfl, rfl, rfl, rfl⟩, ⟨rfl, rfl, rfl⟩⟩
  have h3 : ∀ u, EvalSame u.ppu (bgFetchStage u).ppu ∧ LineSame u.ppu (bgFetchStage u).ppu := by
    intro u
    unfold bgFetchStage bgFetch
    repeat' split
    all_goals first
      | exact ⟨⟨rfl, rfl, rfl, rfl, rfl, rfl, rfl⟩, ⟨rfl, rfl, rfl⟩⟩
      | (simp only [State.setPpu, ppuRead_ppu]; exact ⟨⟨rfl, rfl, rfl, rfl, rfl, rfl, rfl⟩, ⟨rfl, rfl, rfl⟩⟩)
  have h4 : ∀ p, EvalSame p (bgUpdateV p) ∧ LineSame p (bgUpdateV p) := by
    intro p
    unfold bgUpdateV
    repeat' split
    all_goals exact ⟨⟨rfl, rfl, rfl, rfl, rfl, rfl, rfl⟩, ⟨rfl, rfl, rfl⟩⟩
  exact ⟨((h1.1.trans (h2 _).1).trans (h3 _).1).trans (h4 _).1, ((h1.2.trans (h2 _).2).trans (h3 _).2).trans (h4 _).2⟩

theorem dotS2_same (r : Bool) (s : State) : EvalSame s.ppu (dotS2 r s).ppu ∧ LineSame s.ppu (dotS2 r s).ppu := by
  unfold dotS2
  split
  · exact bgDot_same s
  · exact ⟨.refl _, .refl _⟩

theorem dotS3_eval (r : Bool) (s : State) : EvalSame s.ppu (dotS3 r s).ppu :=
  kept_ite EvalSame.refl _ (f := fun s => s.setPpu (shiftSprites s.ppu)) ⟨rfl, rfl, rfl, rfl, rfl, rfl, rfl⟩

/-! ## The end of a dot -/

theorem dotFinish_same (r : Bool) (b : State) :
    BgSame b.ppu (dotFinish r b).ppu ∧ EvalSame b.ppu (dotFinish r b).ppu ∧ LineSame b.ppu (dotFinish r b).ppu := by
  rw [dotFinish_ppu, ppuClockRegisters_kept, advanceDot_kept]
  exact ⟨⟨rfl, rfl, rfl, rfl, rfl, rfl, rfl, rfl, rfl⟩, ⟨rfl, rfl, rfl, rfl, rfl, rfl, rfl⟩, ⟨rfl, rfl, rfl⟩⟩

/-- Over a dot the background registers change as in step S2 (61 R444). -/
theorem ppuDotAt_bg (j : Nat) (s : State) :
    BgSame (dotS2 (renderingEnabled s.ppu) (dotS1 (dotStart j s))).ppu (ppuDotAt j s).ppu := by
  rw [ppuDotAt_eq]
  refine BgSame.trans ?_ (dotFinish_same _ _).1
  exact (((dotS3_bg _ _).trans (dotS4_same _).1).trans (dotS5_same _ _).1).trans (dotS6_same _ _).1

/-- Over a dot the evaluation changes as in step S5, which sees it as it was before the dot (61 R453-R459). -/
theorem ppuDotAt_eval (j : Nat) (s : State) :
    ∃ u : State, EvalSame s.ppu u.ppu ∧ PpuKept (dotStart j s).ppu u.ppu ∧ u.params = s.params ∧
      EvalSame (dotS5 (renderingEnabled s.ppu) u).ppu (ppuDotAt j s).ppu := by
  refine ⟨dotS4 (dotS3 (renderingEnabled s.ppu) (dotS2 (renderingEnabled s.ppu) (dotS1 (dotStart j s)))), ?_, ?_, ?_, ?_⟩
  · refine EvalSame.trans (q := (dotStart j s).ppu) ⟨rfl, rfl, rfl, rfl, rfl, rfl, rfl⟩ ?_
    exact (((dotS1_eval (dotStart j s)).1.trans (dotS2_same _ _).1).trans (dotS3_eval _ _)).trans (dotS4_same _).2.1
  · exact (((dotS1_effect _).trans (dotS2_effect _ _)).trans (dotS3_effect _ _)).trans (dotS4_effect _) |>.ppu
  · exact (((dotS1_effect _).trans (dotS2_effect _ _)).trans (dotS3_effect _ _)).trans (dotS4_effect _) |>.params
  · rw [ppuDotAt_eq]
    exact (dotS6_same _ _).2.trans (dotFinish_same _ _).2.1

/-- Over a dot the sprite line changes as in step S6, from the line as step S3 left it; when S6 runs, the evaluation is as
it was before the dot (61 R460, R461, R467). -/
theorem ppuDotAt_line (j : Nat) (s : State) :
    ∃ w : State, DotEffect (dotStart j s) w ∧ (257 ≤ s.ppu.hCount → EvalSame s.ppu w.ppu) ∧
      LineSame (if shiftsSprites (renderingEnabled s.ppu) s.ppu then shiftSprites s.ppu else s.ppu) w.ppu ∧
      LineSame (dotS6 (renderingEnabled s.ppu) w).ppu (ppuDotAt j s).ppu := by
  have e2 := (dotS1_effect (dotStart j s)).trans (dotS2_effect (renderingEnabled s.ppu) _)
  have l2 : LineSame s.ppu (dotS2 (renderingEnabled s.ppu) (dotS1 (dotStart j s))).ppu :=
    LineSame.trans (q := (dotStart j s).ppu) ⟨rfl, rfl, rfl⟩ ((dotS1_eval (dotStart j s)).2.trans (dotS2_same _ _).2)
  have v2 : EvalSame s.ppu (dotS2 (renderingEnabled s.ppu) (dotS1 (dotStart j s))).ppu :=
    EvalSame.trans (q := (dotStart j s).ppu) ⟨rfl, rfl, rfl, rfl, rfl, rfl, rfl⟩
      ((dotS1_eval (dotStart j s)).1.trans (dotS2_same _ _).1)
  refine ⟨dotS5 (renderingEnabled s.ppu) (dotS4 (dotS3 (renderingEnabled s.ppu)
    (dotS2 (renderingEnabled s.ppu) (dotS1 (dotStart j s))))),
    ((e2.trans (dotS3_effect _ _)).trans (dotS4_effect _)).trans (dotS5_effect _ _), ?_, ?_, ?_⟩
  · intro h
    have e4 := (e2.trans (dotS3_effect (renderingEnabled s.ppu) _)).trans (dotS4_effect _)
    have v4 := (v2.trans (dotS3_eval (renderingEnabled s.ppu) _)).trans (dotS4_same _).2.1
    generalize dotS4 (dotS3 (renderingEnabled s.ppu) _) = u at e4 v4
    have hh : u.ppu.hCount = s.ppu.hCount := e4.ppu.hCount
    have : visibleDot u.ppu = false := by
      unfold visibleDot
      rw [hh, Bool.and_eq_false_iff, decide_eq_false_iff_not]
      exact .inr (by omega)
    unfold dotS5
    rw [this]
    exact v4
  · refine LineSame.trans ?_ ((dotS4_same _).2.2.trans (dotS5_same _ _).2)
    generalize dotS2 (renderingEnabled s.ppu) (dotS1 (dotStart j s)) = u at e2 l2
    have hv : u.ppu.vCount = s.ppu.vCount := e2.ppu.vCount
    have hh : u.ppu.hCount = s.ppu.hCount := e2.ppu.hCount
    unfold dotS3 shiftsSprites
    rw [hv, hh]
    split
    · exact ⟨by show (shiftSprites u.ppu).sprites = _; unfold shiftSprites; rw [l2.sprites, l2.sprCount],
        l2.sprCount, l2.spr0InLine⟩
    · exact l2
  · rw [ppuDotAt_eq]
    exact (dotFinish_same _ _).2.2

/-! ## The output -/

theorem dotS2_out (r : Bool) (s : State) : (dotS2 r s).out = s.out := by
  have h : (bgDot s).out = s.out := by
    unfold bgDot bgFetchStage bgReloadStage bgShiftStage bgFetch
    repeat' split
    all_goals simp
  unfold dotS2
  split
  · exact h
  · rfl

theorem dotS3_out (r : Bool) (s : State) : (dotS3 r s).out = s.out := by
  unfold dotS3
  split <;> rfl

theorem dotS5_out (r : Bool) (s : State) : (dotS5 r s).out = s.out := by
  unfold dotS5
  split <;> rfl

theorem dotS6_out (r : Bool) (s : State) : (dotS6 r s).out = s.out := by
  have hf : ∀ u : State, (spriteFetch u).out = u.out := by
    intro u
    unfold spriteFetch spriteFetchLo spriteFetchHi
    simp only []
    repeat' split
    all_goals simp
  have hc : (spriteCommitStage r s).out = s.out := by
    unfold spriteCommitStage
    split <;> rfl
  have hl : (spriteLineDot r s).out = s.out := by
    unfold spriteLineDot spriteFetchStage
    split
    · rw [hf, hc]
    · exact hc
  unfold dotS6
  split
  · exact hl
  · rfl

theorem dotFinish_out (r : Bool) (b : State) : (dotFinish r b).out = b.out := rfl

/-- Over a dot the output grows as in step S4 (61 R473, R478). -/
theorem ppuDotAt_out (j : Nat) (s : State) :
    (ppuDotAt j s).out
      = (dotS4 (dotS3 (renderingEnabled s.ppu) (dotS2 (renderingEnabled s.ppu) (dotS1 (dotStart j s))))).out := by
  rw [ppuDotAt_eq, dotFinish_out]
  unfold dotBody
  rw [dotS6_out, dotS5_out]

/-! ## Status -/

theorem dotS2_status (r : Bool) (s : State) : (dotS2 r s).ppu.status = s.ppu.status := by
  have h1 : (bgShiftStage s).ppu.status = s.ppu.status := by unfold bgShiftStage; split <;> rfl
  have h2 : ∀ u, (bgReloadStage u).ppu.status = u.ppu.status := by intro u; unfold bgReloadStage; split <;> rfl
  have h3 : ∀ u, (bgFetchStage u).ppu.status = u.ppu.status := by
    intro u
    unfold bgFetchStage bgFetch
    repeat' split
    all_goals first | rfl | simp only [State.setPpu, ppuRead_ppu]
  have h4 : ∀ p, (bgUpdateV p).status = p.status := by
    intro p
    unfold bgUpdateV
    repeat' split
    all_goals rfl
  unfold dotS2
  split
  · exact (h4 _).trans ((h3 _).trans ((h2 _).trans h1))
  · rfl

theorem dotS3_status (r : Bool) (s : State) : (dotS3 r s).ppu.status = s.ppu.status := by
  unfold dotS3
  split <;> rfl

theorem dotS5_status (r : Bool) (s : State) : (dotS5 r s).ppu.status = s.ppu.status := by
  unfold dotS5 evalDot evalReset evalStep evalRead evalStart evalNewSprite evalCopySprite evalOverflow setSecOam
  simp only []
  repeat' split
  all_goals rfl

theorem dotS6_status (r : Bool) (s : State) : (dotS6 r s).ppu.status = s.ppu.status := by
  have hc : (spriteCommitStage r s).ppu.status = s.ppu.status := by
    unfold spriteCommitStage spriteCommit
    repeat' split
    all_goals rfl
  have hf : ∀ u : State, (spriteFetch u).ppu.status = u.ppu.status := by
    intro u
    unfold spriteFetch spriteFetchLo spriteFetchHi
    simp only []
    repeat' split
    all_goals first | rfl | simp only [State.setPpu, setSlot, ppuRead_ppu]
  unfold dotS6 spriteLineDot spriteFetchStage
  split
  · split
    · exact (hf _).trans hc
    · exact hc
  · rfl

theorem dotFinish_statusNew (r : Bool) (b : State) : (dotFinish r b).ppu.status.new = b.ppu.status.new := by
  rw [dotFinish_ppu]
  unfold ppuClockRegisters Ppu.commit
  split
  all_goals rw [advanceDot_kept]
  rfl

/-- Over a dot the staged Status changes as in steps S1 and S4 (61 R425, R426, R470). -/
theorem ppuDotAt_statusNew (j : Nat) (s : State) :
    (ppuDotAt j s).ppu.status.new
      = (dotS4 (dotS3 (renderingEnabled s.ppu)
          (dotS2 (renderingEnabled s.ppu) (dotS1 (dotStart j s))))).ppu.status.new ∧
    (dotS3 (renderingEnabled s.ppu) (dotS2 (renderingEnabled s.ppu) (dotS1 (dotStart j s)))).ppu.status
      = (statusEvents (dotStart j s).ppu).status := by
  constructor
  · rw [ppuDotAt_eq, dotFinish_statusNew]
    unfold dotBody
    rw [dotS6_status, dotS5_status]
  · rw [dotS3_status, dotS2_status]
    rfl

end Sys2Proof.Machine
end

