-- ==== Sys2Proof/Laws/Shapes.lean ====
section
/-! SUPPORT. The shapes in which instructions run: from a ready state each answers a next state, and which one; and what
any answered next state leaves alone. -/

namespace Sys2Proof.Machine

@[simp] theorem beginInstr_ready (op : Byte) (s : State) : (beginInstr op s).Ready ↔ s.Ready := Iff.rfl

/-- Beginning an instruction and running its mode only reads, but for the fetch bookkeeping. -/
theorem beginAndResolve_effect (op : Byte) (operand : Word) (s : State) :
    ReadEffect (beginInstr op s) (resolve (opInfo op).mode operand (beginInstr op s)).st :=
  resolve_effect _ _ _

theorem beginAndResolve_ready {s : State} (h : s.Ready) (op : Byte) (operand : Word) :
    (beginAndResolve op operand s).st.Ready :=
  (beginAndResolve_effect op operand s).isReady h

/-- The registers after the mode: the fetch bookkeeping and EffAddr. -/
theorem beginAndResolve_cpu (op : Byte) (operand : Word) (s : State) :
    (beginAndResolve op operand s).st.cpu =
      { (beginInstr op s).cpu with effAddr := (beginAndResolve op operand s).ea } := by
  show ({ (resolve (opInfo op).mode operand (beginInstr op s)).st.cpu with effAddr := _ } : Cpu) = _
  rw [(beginAndResolve_effect op operand s).cpu]; rfl

theorem readOperand_ready {s : State} (h : s.Ready) (m : Mode) (operand ea : Word) :
    (readOperand m operand ea s).2.Ready :=
  (readOperand_effect m operand ea s).isReady h

theorem writeBack_ready {s : State} (h : s.Ready) (m : Mode) (ea : Word) (v : Byte) : (writeBack m ea v s).Ready := by
  cases m
  case acc => exact h
  all_goals exact memWrite_ready h ea v

/-- A reading instruction answers from a ready state. -/
theorem runRead_next {s : State} (h : s.Ready) (op : Byte) (operand : Word) {f : Byte → State → State}
    (hf : ∀ m t, StackEffect t (f m t)) :
    let e := beginAndResolve op operand s
    let m := readOperand (opInfo op).mode operand e.ea e.st
    runRead op operand f s = .next ((f m.1 m.2).setCycles (cyclesOf op e.cross)) ∧
      ((f m.1 m.2).setCycles (cyclesOf op e.cross)).Ready := by
  intro e m
  have hr := (hf m.1 m.2).ready (readOperand_ready (beginAndResolve_ready h op operand) _ _ _)
  exact ⟨finish_of_none (s := (f m.1 m.2).setCycles (cyclesOf op e.cross)) hr.1, hr⟩

/-- A store answers from a ready state. -/
theorem runStore_next {s : State} (h : s.Ready) (op : Byte) (operand : Word) (src : Cpu → Byte) :
    let e := beginAndResolve op operand s
    runStore op operand src s = .next ((memWrite e.st e.ea (src e.st.cpu)).setCycles (cyclesOf op e.cross)) ∧
      ((memWrite e.st e.ea (src e.st.cpu)).setCycles (cyclesOf op e.cross)).Ready := by
  intro e
  have hr := memWrite_ready (beginAndResolve_ready h op operand) e.ea (src e.st.cpu)
  exact ⟨finish_of_none (s := (memWrite e.st e.ea (src e.st.cpu)).setCycles (cyclesOf op e.cross)) hr.1, hr⟩

/-- A read-modify-write instruction answers from a ready state. -/
theorem runModify_next {s : State} (h : s.Ready) (op : Byte) (operand : Word) (f : Byte → Byte → Byte)
    {g : Byte → Byte → State → State} (hg : ∀ m r t, StackEffect t (g m r t)) :
    let e := beginAndResolve op operand s
    let m := readOperand (opInfo op).mode operand e.ea e.st
    let r := f m.2.cpu.p m.1
    let t := (g m.1 r (writeBack (opInfo op).mode e.ea r m.2)).setCycles (cyclesOf op e.cross)
    runModify op operand f g s = .next t ∧ t.Ready := by
  intro e m r t
  have hr := (hg m.1 r (writeBack (opInfo op).mode e.ea r m.2)).ready
    (writeBack_ready (readOperand_ready (beginAndResolve_ready h op operand) _ _ _) _ e.ea r)
  exact ⟨finish_of_none (s := t) hr.1, hr⟩

/-- An implied instruction answers from a ready state. -/
theorem runImplied_next {s : State} (h : s.Ready) (op : Byte) {f : State → State} (hf : ∀ t, StackEffect t (f t)) :
    let t := (f (beginAndResolve op 0#16 s).st).setCycles (cyclesOf op false)
    runImplied op f s = .next t ∧ t.Ready := by
  intro t
  have hr := (hf (beginAndResolve op 0#16 s).st).ready (beginAndResolve_ready h op 0#16)
  exact ⟨finish_of_none (s := t) hr.1, hr⟩

/-- A jump answers from a ready state. -/
theorem runJump_next {s : State} (h : s.Ready) (op : Byte) (operand : Word) {f : Word → State → State}
    (hf : ∀ a t, StackEffect t (f a t)) :
    let e := beginAndResolve op operand s
    let t := (f e.ea e.st).setCycles (cyclesOf op false)
    runJump op operand f s = .next t ∧ t.Ready := by
  intro e t
  have hr := (hf e.ea e.st).ready (beginAndResolve_ready h op operand)
  exact ⟨finish_of_none (s := t) hr.1, hr⟩

/-- A branch answers from a ready state. -/
theorem runBranch_next {s : State} (h : s.Ready) (op : Byte) (rel : Byte) (cond : Byte → Bool) :
    let e := beginAndResolve op (zeroPage rel) s
    let t := (if cond e.st.cpu.p then e.st.setPc e.ea else e.st).setCycles
      (branchCycles op (cond e.st.cpu.p) e.ea e.st.cpu.pc)
    runBranch op rel cond s = .next t ∧ t.Ready := by
  intro e t
  have hr := beginAndResolve_ready h op (zeroPage rel)
  have ht : t.Ready := by
    show ((if cond e.st.cpu.p then e.st.setPc e.ea else e.st).setCycles _).Ready
    split <;> exact hr
  exact ⟨finish_of_none (s := t) ht.1, ht⟩

/-- A kill opcode answers from a ready state. -/
theorem runKill_next {s : State} (h : s.Ready) (op : Byte) (operand : Word) :
    let t := (raiseKill (beginAndResolve op operand s).st).setCycles killCycles
    runKill op operand s = .next t ∧ t.Ready := by
  intro t
  have hr := beginAndResolve_ready h op operand
  exact ⟨finish_of_none (s := t) hr.1, hr⟩

/-- The effect of a handler that changes registers alone. -/
theorem registers_effect (s : State) (c : Cpu) : StackEffect s (s.setCpu c) := setCpu_stackEffect s c

end Sys2Proof.Machine
end

