-- ==== Sys2Proof/Tests/Slice0.lean ====
section
/-! SUPPORT. Tests: ill-formed inputs, encodings written out from the spec, single steps whose results are the vectors of
spec/95_test_vectors.md (the section in each comment), and for each obligation with hypotheses states and operands that
meet them, at the boundaries of each clause. -/

namespace Sys2Proof.Machine

/-! ## Helpers -/

/-- A state to test in: registers as given, RAM as listed, S = 0xFD, the PC at 0x8000, a dispatch tick. -/
def testState (a x y p : Byte) (ram : List Host.Cell) : State :=
  { State.reset with
    cpu := { State.reset.cpu with a := a, x := x, y := y, p := p, pc := 0x8000#16, cyclesLeft := 0#8 }
    bus := { State.reset.bus with ram := Memory.ofCells ram } }

/-- A state to test in, with the PC and S as given. -/
def testAt (pc : Word) (sp p : Byte) (ram : List Host.Cell) : State :=
  let s := testState 0#8 0#8 0#8 p ram
  s.setCpu { s.cpu with pc := pc, s := sp }

/-- A state with ROM bytes. -/
def withRom (s : State) (rom : List Host.Cell) : State := { s with cart := { s.cart with rom := Memory.ofCells rom } }

/-- A view of the next state, if there is one. -/
def after {α : Type} (r : Result) (view : State → α) : Option α :=
  match r with
  | .next t => some (view t)
  | .fault _ => none
  | .refused _ => none

/-- The refusal, if the answer is one. -/
def refusalOf (r : Result) : Option Refusal :=
  match r with
  | .refused e => some e
  | .next _ => none
  | .fault _ => none

/-- A and P. -/
def viewAP (t : State) : Byte × Byte := (t.cpu.a, t.cpu.p)

/-- A, P and the cycles. -/
def viewAPC (t : State) : Byte × Byte × Byte := (t.cpu.a, t.cpu.p, t.cpu.cyclesLeft)

/-- A RAM byte, P and the cycles. -/
def viewMPC (i : Nat) (t : State) : Byte × Byte × Byte := (Memory.read t.bus.ram i, t.cpu.p, t.cpu.cyclesLeft)

/-- PC and the cycles. -/
def viewPcC (t : State) : Word × Byte := (t.cpu.pc, t.cpu.cyclesLeft)

/-! ## Ill-formed inputs -/

/-- A cartridge that passes every check. -/
def goodCartridge : Cartridge :=
  { mapperId := 1, prgBanks := 2, chrBanks := 1, mirror := .vertical, battery := false, rom := [(0x9FFF, 1#8)] }

theorem test_cartridge_good : goodCartridge.wellFormed = true := by decide

/-- Mapper 4 is out of scope (00 R4). -/
theorem test_cartridge_bad_mapper :
    Cartridge.mapperOk { goodCartridge with mapperId := 4 } = false ∧
    Cartridge.wellFormed { goodCartridge with mapperId := 4 } = false := by decide

/-- No PRG bank (21 R150). -/
theorem test_cartridge_no_prg :
    Cartridge.prgOk { goodCartridge with prgBanks := 0, rom := [] } = false ∧
    Cartridge.wellFormed { goodCartridge with prgBanks := 0, rom := [] } = false := by decide

/-- A ROM byte past the image of 2 * 16384 + 8192 bytes (21 R153). -/
theorem test_cartridge_bad_rom :
    Cartridge.romOk { goodCartridge with rom := [(0xA000, 1#8)] } = false ∧
    Cartridge.wellFormed { goodCartridge with rom := [(0xA000, 1#8)] } = false := by decide

/-- A byte list that ends before an instruction does is no instruction. -/
theorem test_decode_truncated :
    decode [] = .error .noOpcode ∧ decode [0xA9#8] = .error (.missingOperand 0xA9#8) ∧
    decode [0xAD#8, 0x00#8] = .error (.missingOperand 0xAD#8) := by decide

/-- A launch is refused by name (21 R150). -/
theorem test_power_on_refuses :
    refusalOf (State.powerOn { goodCartridge with mapperId := 4 } defaultParams
      ⟨0#8, 0#8, 0#8, [], [], [], [], [], []⟩) = some .unsupportedMapper ∧
    refusalOf (State.powerOn { goodCartridge with prgBanks := 0 } defaultParams
      ⟨0#8, 0#8, 0#8, [], [], [], [], [], []⟩) = some .noPrgBanks := by decide

/-! ## Encodings (30 R193, R195, R196), family by family -/

theorem test_decode_load : decode [0xB5#8, 0xF0#8] = .ok (.ldaZpx 0xF0#8, []) := by decide
theorem test_decode_store : decode [0x9D#8, 0xFF#8, 0x02#8] = .ok (.staAbx 0x02FF#16, []) := by decide
theorem test_decode_transfer : decode [0xBA#8, 0x9A#8] = .ok (.tsx, [0x9A#8]) := by decide
theorem test_decode_arith : decode [0xE9#8, 0x01#8] = .ok (.sbcImm 0x01#8, []) := by decide
theorem test_decode_compare : decode [0xDD#8, 0x34#8, 0x12#8] = .ok (.cmpAbx 0x1234#16, []) := by decide
theorem test_decode_increment : decode [0xE6#8, 0x10#8] = .ok (.incZp0 0x10#8, []) := by decide
theorem test_decode_shift : decode [0x1E#8, 0xFF#8, 0x02#8] = .ok (.aslAbx 0x02FF#16, []) := by decide
theorem test_decode_jump : decode [0x4C#8, 0xF5#8, 0xC5#8] = .ok (.jmpAbs 0xC5F5#16, []) := by decide
theorem test_decode_branch : decode [0xD0#8, 0xF8#8] = .ok (.bne 0xF8#8, []) := by decide
theorem test_decode_stack : decode [0x68#8] = .ok (.pla, []) := by decide
theorem test_decode_flag : decode [0xF8#8] = .ok (.sed, []) := by decide
theorem test_decode_nop : decode [0x1C#8, 0xFF#8, 0x02#8] = .ok (.nopAbx1C 0x02FF#16, []) := by decide
theorem test_decode_combined : decode [0xDF#8, 0xFF#8, 0x02#8] = .ok (.dcpAbx 0x02FF#16, []) := by decide
theorem test_decode_undocumented : decode [0xBB#8, 0x00#8, 0x02#8] = .ok (.lasAby 0x0200#16, []) := by decide
theorem test_decode_kill : decode [0x93#8, 0x10#8] = .ok (.ahxIzy 0x10#8, []) := by decide

/-- The table's numbering: the first byte in bits 7..0, the second in 15..8, the third in 23..16. -/
theorem test_decode_table_word : decodeTableWord 24 0x02008D = some (.staAbs 0x0200#16) := by decide

/-- `withFetchWord` places an instruction that the next step runs. -/
theorem test_fetch_word : after (step (State.reset.withFetchWord 16 0x80A9)) viewAP = some (0x80#8, 0xA4#8) := by decide

/-! ## Loads, stores, transfers (95 section 2.1) -/

theorem test_lda_imm_zero : after (exec (.ldaImm 0x00#8) (testState 1#8 0#8 0#8 0x24#8 [])) viewAPC
    = some (0x00#8, 0x26#8, 2#8) := by decide
theorem test_lda_abx_crosses :
    after (exec (.ldaAbx 0x02FF#16) (testState 0#8 1#8 0#8 0x24#8 [(0x300, 0x77#8)])) viewAPC
      = some (0x77#8, 0x24#8, 5#8) := by decide
theorem test_lda_zpx_wraps :
    after (exec (.ldaZpx 0xF0#8) (testState 0#8 0x20#8 0#8 0x24#8 [(0x10, 0x42#8), (0x110, 0x99#8)])) viewAPC
      = some (0x42#8, 0x24#8, 4#8) := by decide
theorem test_lda_izx_pointer_wraps :
    after (exec (.ldaIzx 0xFE#8) (testState 0#8 1#8 0#8 0x24#8 [(0x00, 0x03#8), (0x300, 0x99#8)])) viewAPC
      = some (0x99#8, 0xA4#8, 6#8) := by decide
theorem test_lda_izy_crosses :
    after (exec (.ldaIzy 0x10#8) (testState 0#8 0#8 1#8 0x24#8 [(0x10, 0xFF#8), (0x11, 0x02#8), (0x300, 0x05#8)])) viewAPC
      = some (0x05#8, 0x24#8, 6#8) := by decide
theorem test_sta_abx_no_penalty :
    after (exec (.staAbx 0x02FF#16) (testState 0x5A#8 1#8 0#8 0x24#8 [])) (viewMPC 0x300)
      = some (0x5A#8, 0x24#8, 5#8) := by decide
theorem test_sta_izy_pointer_wraps :
    after (exec (.staIzy 0xFF#8) (testState 0x5A#8 0#8 2#8 0x24#8 [(0x00, 0x02#8)])) (viewMPC 0x202)
      = some (0x5A#8, 0x24#8, 6#8) := by decide
theorem test_stx_zpy_wraps : after (exec (.stxZpy 0x01#8) (testState 0#8 7#8 0xFF#8 0x24#8 [])) (viewMPC 0)
    = some (7#8, 0x24#8, 4#8) := by decide
theorem test_sty_ctrl :
    after (exec (.styAbs 0x2000#16) (testState 0#8 0#8 1#8 0x24#8 [])) (fun t => (t.ppu.ctrl, t.ppu.t, t.cpu.cyclesLeft))
      = some (⟨0#8, 1#8⟩, 0x0400#15, 4#8) := by decide
theorem test_tsx : after (exec .tsx (testState 0#8 0#8 0#8 0x24#8 [])) (fun t => (t.cpu.x, t.cpu.p))
    = some (0xFD#8, 0xA4#8) := by decide
theorem test_txs_sets_no_flag : after (exec .txs (testState 0#8 0#8 0#8 0x24#8 [])) (fun t => (t.cpu.s, t.cpu.p))
    = some (0x00#8, 0x24#8) := by decide
theorem test_tax : after (exec .tax (testState 0#8 9#8 0#8 0x24#8 [])) (fun t => (t.cpu.x, t.cpu.p))
    = some (0x00#8, 0x26#8) := by decide

theorem test_tay : after (exec .tay (testState 0x80#8 0#8 0#8 0x24#8 [])) (fun t => (t.cpu.y, t.cpu.p))
    = some (0x80#8, 0xA4#8) := by decide
theorem test_txa : after (exec .txa (testState 9#8 0x80#8 0#8 0x24#8 [])) viewAP = some (0x80#8, 0xA4#8) := by decide
theorem test_tya : after (exec .tya (testState 9#8 0#8 0x7F#8 0x24#8 [])) viewAP = some (0x7F#8, 0x24#8) := by decide
theorem test_ldx_zpy_wraps : after (exec (.ldxZpy 0xF0#8) (testState 0#8 0#8 0x20#8 0x24#8 [(0x10, 0x80#8)]))
    (fun t => (t.cpu.x, t.cpu.p)) = some (0x80#8, 0xA4#8) := by decide
theorem test_ldy_abx : after (exec (.ldyAbx 0x02FF#16) (testState 0#8 1#8 9#8 0x24#8 []))
    (fun t => (t.cpu.y, t.cpu.p, t.cpu.cyclesLeft)) = some (0x00#8, 0x26#8, 5#8) := by decide

/-! ## Arithmetic and comparison (95 section 2.2) -/

theorem test_adc_overflow : after (exec (.adcImm 0x50#8) (testState 0x50#8 0#8 0#8 0x24#8 [])) viewAP
    = some (0xA0#8, 0xE4#8) := by decide
theorem test_adc_ignores_decimal : after (exec (.adcImm 0x01#8) (testState 0x09#8 0#8 0#8 0x2C#8 [])) viewAP
    = some (0x0A#8, 0x2C#8) := by decide
theorem test_sbc_overflow : after (exec (.sbcImm 0x01#8) (testState 0x80#8 0#8 0#8 0x25#8 [])) viewAP
    = some (0x7F#8, 0x65#8) := by decide
theorem test_sbc_eb : after (exec (.sbcImmEB 0x01#8) (testState 0x10#8 0#8 0#8 0x25#8 [])) viewAP
    = some (0x0F#8, 0x25#8) := by decide
theorem test_cmp_less : after (exec (.cmpImm 0x41#8) (testState 0x40#8 0#8 0#8 0x24#8 [])) viewAP
    = some (0x40#8, 0xA4#8) := by decide
theorem test_cmp_unsigned : after (exec (.cmpImm 0x00#8) (testState 0x80#8 0#8 0#8 0x24#8 [])) viewAP
    = some (0x80#8, 0xA5#8) := by decide
theorem test_cpx : after (exec (.cpxImm 0x06#8) (testState 0#8 5#8 0#8 0x24#8 [])) viewAP = some (0#8, 0xA4#8) := by decide
theorem test_cpy : after (exec (.cpyImm 0x08#8) (testState 0#8 0#8 0x10#8 0x24#8 [])) viewAP = some (0#8, 0x25#8) := by decide
theorem test_bit_from_memory : after (exec (.bitZp0 0x10#8) (testState 1#8 0#8 0#8 0x24#8 [(0x10, 0xC0#8)])) viewAP
    = some (1#8, 0xE6#8) := by decide
theorem test_bit_clears : after (exec (.bitZp0 0x10#8) (testState 0xFF#8 0#8 0#8 0xE6#8 [(0x10, 0x3F#8)])) viewAP
    = some (0xFF#8, 0x24#8) := by decide

/-! ## Logic, shifts, increments (95 section 2.3) -/

theorem test_and : after (exec (.andImm 0x3C#8) (testState 0xF0#8 0#8 0#8 0x24#8 [])) viewAPC
    = some (0x30#8, 0x24#8, 2#8) := by decide
theorem test_ora : after (exec (.oraImm 0x80#8) (testState 0x01#8 0#8 0#8 0x24#8 [])) viewAPC
    = some (0x81#8, 0xA4#8, 2#8) := by decide
theorem test_eor : after (exec (.eorImm 0x5A#8) (testState 0x5A#8 0#8 0#8 0x24#8 [])) viewAPC
    = some (0x00#8, 0x26#8, 2#8) := by decide
theorem test_asl_a : after (exec .aslAcc (testState 0x80#8 0#8 0#8 0x24#8 [])) viewAPC
    = some (0x00#8, 0x27#8, 2#8) := by decide
theorem test_asl_abx_no_penalty :
    after (exec (.aslAbx 0x02FF#16) (testState 0#8 1#8 0#8 0x24#8 [(0x300, 0x02#8)])) (viewMPC 0x300)
      = some (0x04#8, 0x24#8, 7#8) := by decide
theorem test_lsr_a : after (exec .lsrAcc (testState 0x01#8 0#8 0#8 0xA4#8 [])) viewAPC
    = some (0x00#8, 0x27#8, 2#8) := by decide
theorem test_rol_a : after (exec .rolAcc (testState 0x80#8 0#8 0#8 0x24#8 [])) viewAPC
    = some (0x00#8, 0x27#8, 2#8) := by decide
theorem test_rol_zp : after (exec (.rolZp0 0x10#8) (testState 0#8 0#8 0#8 0x25#8 [(0x10, 0x40#8)])) (viewMPC 0x10)
    = some (0x81#8, 0xA4#8, 5#8) := by decide
theorem test_ror_a : after (exec .rorAcc (testState 0x01#8 0#8 0#8 0x25#8 [])) viewAPC
    = some (0x80#8, 0xA5#8, 2#8) := by decide
theorem test_inc_wraps : after (exec (.incZp0 0x10#8) (testState 0#8 0#8 0#8 0x24#8 [(0x10, 0xFF#8)])) (viewMPC 0x10)
    = some (0x00#8, 0x26#8, 5#8) := by decide
theorem test_dec_wraps : after (exec (.decZp0 0x10#8) (testState 0#8 0#8 0#8 0x24#8 [])) (viewMPC 0x10)
    = some (0xFF#8, 0xA4#8, 5#8) := by decide
theorem test_dex : after (exec .dex (testState 0#8 0#8 0#8 0x24#8 [])) (fun t => (t.cpu.x, t.cpu.p))
    = some (0xFF#8, 0xA4#8) := by decide
theorem test_iny : after (exec .iny (testState 0#8 0#8 0xFF#8 0x24#8 [])) (fun t => (t.cpu.y, t.cpu.p))
    = some (0x00#8, 0x26#8) := by decide

theorem test_inx : after (exec .inx (testState 0#8 0xFF#8 0#8 0x24#8 [])) (fun t => (t.cpu.x, t.cpu.p))
    = some (0x00#8, 0x26#8) := by decide
theorem test_dey : after (exec .dey (testState 0#8 0#8 0x01#8 0x24#8 [])) (fun t => (t.cpu.y, t.cpu.p))
    = some (0x00#8, 0x26#8) := by decide

/-! ## Control flow (95 section 2.4, E2) -/

theorem test_beq_taken : after (exec (.beq 0xFE#8) (testAt 0x8000#16 0xFD#8 0x26#8 [])) viewPcC
    = some (0x8000#16, 3#8) := by decide
theorem test_beq_not_taken : after (exec (.beq 0xFE#8) (testAt 0x8000#16 0xFD#8 0x24#8 [])) viewPcC
    = some (0x8002#16, 2#8) := by decide
theorem test_bne_page_of_next : after (exec (.bne 0x00#8) (testAt 0x80FE#16 0xFD#8 0x24#8 [])) viewPcC
    = some (0x8100#16, 3#8) := by decide
theorem test_bne_other_page : after (exec (.bne 0x01#8) (testAt 0x80FD#16 0xFD#8 0x24#8 [])) viewPcC
    = some (0x8100#16, 4#8) := by decide
theorem test_bvs_backward : after (exec (.bvs 0x80#8) (testAt 0x8000#16 0xFD#8 0x64#8 [])) viewPcC
    = some (0x7F82#16, 4#8) := by decide
theorem test_bcc_pc_wraps : after (exec (.bcc 0x00#8) (testAt 0xFFFE#16 0xFD#8 0x24#8 [])) viewPcC
    = some (0x0000#16, 3#8) := by decide
theorem test_bcs_reads_carry : after (exec (.bcs 0x10#8) (testAt 0x8000#16 0xFD#8 0x25#8 [])) viewPcC
    = some (0x8012#16, 3#8) := by decide
theorem test_bpl_reads_sign : after (exec (.bpl 0x10#8) (testAt 0x8000#16 0xFD#8 0xA4#8 [])) viewPcC
    = some (0x8002#16, 2#8) := by decide
theorem test_bmi_reads_sign : after (exec (.bmi 0x10#8) (testAt 0x8000#16 0xFD#8 0xA4#8 [])) viewPcC
    = some (0x8012#16, 3#8) := by decide
theorem test_bvc_reads_overflow : after (exec (.bvc 0x10#8) (testAt 0x8000#16 0xFD#8 0x64#8 [])) viewPcC
    = some (0x8002#16, 2#8) := by decide
theorem test_jmp_abs : after (exec (.jmpAbs 0x1234#16) (testState 0#8 0#8 0#8 0x24#8 [])) viewPcC
    = some (0x1234#16, 3#8) := by decide
theorem test_jmp_ind_page_wrap :
    after (exec (.jmpInd 0x12FF#16)
      (testState 0#8 0#8 0#8 0x24#8 [(0x2FF, 0x34#8), (0x300, 0x99#8), (0x200, 0x56#8)])) viewPcC
      = some (0x5634#16, 5#8) := by decide
theorem test_jsr_pushes_last_byte :
    after (exec (.jsrAbs 0x9000#16) (testState 0#8 0#8 0#8 0x24#8 []))
      (fun t => (t.cpu.pc, t.cpu.s, t.bus.ram, t.cpu.cyclesLeft))
      = some (0x9000#16, 0xFB#8, [(0x1FC, 0x02#8), (0x1FD, 0x80#8)], 6#8) := by decide
theorem test_jsr_stack_wraps :
    after (exec (.jsrAbs 0x9000#16) (testAt 0x8000#16 0x00#8 0x24#8 [])) (fun t => (t.cpu.s, t.bus.ram))
      = some (0xFE#8, [(0x100, 0x80#8), (0x1FF, 0x02#8)]) := by decide
theorem test_rts :
    after (exec .rts (testAt 0x9000#16 0xFB#8 0x24#8 [(0x1FD, 0x80#8), (0x1FC, 0x02#8)]))
      (fun t => (t.cpu.pc, t.cpu.s, t.cpu.cyclesLeft)) = some (0x8003#16, 0xFD#8, 6#8) := by decide
theorem test_brk :
    after (exec .brk (withRom (testState 0#8 0#8 0#8 0x24#8 []) [(0x3FFF, 0x90#8)]))
      (fun t => (t.cpu.pc, t.cpu.s, t.cpu.p, t.bus.ram))
      = some (0x9000#16, 0xFA#8, 0x24#8, [(0x1FB, 0x34#8), (0x1FC, 0x02#8), (0x1FD, 0x80#8)]) := by decide
theorem test_brk_sets_i :
    after (exec .brk (testState 0#8 0#8 0#8 0x20#8 [])) (fun t => (t.cpu.p, Memory.read t.bus.ram 0x1FB))
      = some (0x24#8, 0x30#8) := by decide
theorem test_rti :
    after (exec .rti (testAt 0x9000#16 0xFA#8 0xFF#8 [(0x1FB, 0x34#8), (0x1FC, 0x02#8), (0x1FD, 0x80#8)]))
      (fun t => (t.cpu.pc, t.cpu.s, t.cpu.p, t.cpu.cyclesLeft)) = some (0x8002#16, 0xFD#8, 0x24#8, 6#8) := by decide

/-! ## Stack and flags (95 section 2.5) -/

theorem test_php : after (exec .php (testState 0#8 0#8 0#8 0x24#8 [])) (fun t => (t.cpu.s, t.cpu.p, t.bus.ram))
    = some (0xFC#8, 0x24#8, [(0x1FD, 0x34#8)]) := by decide
theorem test_pha : after (exec .pha (testState 0x5A#8 0#8 0#8 0x24#8 [])) (fun t => (t.cpu.s, t.cpu.p, t.bus.ram))
    = some (0xFC#8, 0x24#8, [(0x1FD, 0x5A#8)]) := by decide
theorem test_plp_forces_b : after (exec .plp (testState 0#8 0#8 0#8 0x24#8 [(0x1FE, 0xFF#8)])) (fun t => (t.cpu.s, t.cpu.p))
    = some (0xFE#8, 0xEF#8) := by decide
theorem test_plp_zero : after (exec .plp (testState 0#8 0#8 0#8 0x24#8 [])) (fun t => (t.cpu.s, t.cpu.p))
    = some (0xFE#8, 0x20#8) := by decide
theorem test_pla_wraps : after (exec .pla (testAt 0x8000#16 0xFF#8 0x24#8 [])) (fun t => (t.cpu.s, t.cpu.a, t.cpu.p))
    = some (0x00#8, 0x00#8, 0x26#8) := by decide
theorem test_cld : after (exec .cld (testState 0#8 0#8 0#8 0x6D#8 [])) viewAP = some (0#8, 0x65#8) := by decide
theorem test_sei : after (exec .sei (testState 0#8 0#8 0#8 0x24#8 [])) viewAP = some (0#8, 0x24#8) := by decide
theorem test_cli : after (exec .cli (testState 0#8 0#8 0#8 0x24#8 [])) viewAP = some (0#8, 0x20#8) := by decide
theorem test_sec : after (exec .sec (testState 0#8 0#8 0#8 0x24#8 [])) viewAP = some (0#8, 0x25#8) := by decide
theorem test_sed : after (exec .sed (testState 0#8 0#8 0#8 0x24#8 [])) viewAP = some (0#8, 0x2C#8) := by decide
theorem test_clv : after (exec .clv (testState 0#8 0#8 0#8 0x64#8 [])) viewAP = some (0#8, 0x24#8) := by decide
theorem test_clc : after (exec .clc (testState 0#8 0#8 0#8 0x25#8 [])) viewAP = some (0#8, 0x24#8) := by decide
theorem test_nop : after (exec .nop (testState 0#8 0#8 0#8 0x24#8 [])) viewPcC = some (0x8001#16, 2#8) := by decide

/-! ## Undocumented opcodes (95 section 2.6) -/

theorem test_slo : after (exec (.sloZp0 0x10#8) (testState 0x01#8 0#8 0#8 0x24#8 [(0x10, 0x81#8)]))
    (fun t => (Memory.read t.bus.ram 0x10, t.cpu.a, t.cpu.p)) = some (0x02#8, 0x03#8, 0x25#8) := by decide
theorem test_rla : after (exec (.rlaZp0 0x10#8) (testState 0xFF#8 0#8 0#8 0x25#8 [(0x10, 0x80#8)]))
    (fun t => (Memory.read t.bus.ram 0x10, t.cpu.a, t.cpu.p)) = some (0x01#8, 0x01#8, 0x25#8) := by decide
theorem test_sre : after (exec (.sreZp0 0x10#8) (testState 0x01#8 0#8 0#8 0x24#8 [(0x10, 0x03#8)]))
    (fun t => (Memory.read t.bus.ram 0x10, t.cpu.a, t.cpu.p)) = some (0x01#8, 0x00#8, 0x27#8) := by decide
theorem test_rra : after (exec (.rraZp0 0x10#8) (testState 0x10#8 0#8 0#8 0x24#8 [(0x10, 0x01#8)]))
    (fun t => (Memory.read t.bus.ram 0x10, t.cpu.a, t.cpu.p)) = some (0x00#8, 0x11#8, 0x24#8) := by decide
theorem test_dcp : after (exec (.dcpZp0 0x10#8) (testState 0xFF#8 0#8 0#8 0x24#8 [])) (viewMPC 0x10)
    = some (0xFF#8, 0x27#8, 5#8) := by decide
theorem test_dcp_abx_no_penalty :
    after (exec (.dcpAbx 0x02FF#16) (testState 0x40#8 1#8 0#8 0x24#8 [(0x300, 0x41#8)])) (viewMPC 0x300)
      = some (0x40#8, 0x27#8, 7#8) := by decide
theorem test_isc : after (exec (.iscZp0 0x10#8) (testState 0x80#8 0#8 0#8 0x25#8 [(0x10, 0x7F#8)]))
    (fun t => (Memory.read t.bus.ram 0x10, t.cpu.a, t.cpu.p)) = some (0x80#8, 0x00#8, 0x27#8) := by decide
theorem test_lax_aby_crosses : after (exec (.laxAby 0x02FF#16) (testState 0#8 0#8 1#8 0x24#8 [(0x300, 0x80#8)]))
    (fun t => (t.cpu.a, t.cpu.x, t.cpu.p, t.cpu.cyclesLeft)) = some (0x80#8, 0x80#8, 0xA4#8, 5#8) := by decide
theorem test_sax : after (exec (.saxZp0 0x10#8) (testState 0xF0#8 0x3C#8 0#8 0x24#8 [])) (viewMPC 0x10)
    = some (0x30#8, 0x24#8, 3#8) := by decide
theorem test_anc : after (exec (.ancImm2B 0x80#8) (testState 0xFF#8 0#8 0#8 0x24#8 [])) viewAP
    = some (0x80#8, 0xA5#8) := by decide
theorem test_alr : after (exec (.alrImm 0x03#8) (testState 0xFF#8 0#8 0#8 0x24#8 [])) viewAP
    = some (0x01#8, 0x25#8) := by decide
theorem test_arr_carry : after (exec (.arrImm 0xFF#8) (testState 0xFF#8 0#8 0#8 0x25#8 [])) viewAP
    = some (0xFF#8, 0xA5#8) := by decide
theorem test_arr_overflow : after (exec (.arrImm 0x40#8) (testState 0xFF#8 0#8 0#8 0x24#8 [])) viewAP
    = some (0x20#8, 0x64#8) := by decide
theorem test_axs_borrow : after (exec (.axsImm 0x01#8) (testState 0xF0#8 0x0F#8 0#8 0x24#8 []))
    (fun t => (t.cpu.a, t.cpu.x, t.cpu.p)) = some (0xF0#8, 0xFF#8, 0xA4#8) := by decide
theorem test_axs_ignores_carry : after (exec (.axsImm 0x10#8) (testState 0xFF#8 0x10#8 0#8 0x24#8 []))
    (fun t => (t.cpu.x, t.cpu.p)) = some (0x00#8, 0x27#8) := by decide
theorem test_las : after (exec (.lasAby 0x0200#16) (testState 0#8 0#8 0#8 0x24#8 [(0x200, 0x0F#8)]))
    (fun t => (t.cpu.a, t.cpu.x, t.cpu.s, t.cpu.cyclesLeft)) = some (0x0D#8, 0x0D#8, 0x0D#8, 4#8) := by decide
theorem test_nop_reads :
    after (exec (.nopAbs0C 0x2002#16)
      ((testState 0#8 0#8 0#8 0x24#8 []).setPpu { State.reset.ppu with status := ⟨0x80#8, 0x80#8⟩, w := true }))
      (fun t => (t.ppu.status, t.ppu.w, t.cpu.cyclesLeft)) = some (⟨0x80#8, 0x00#8⟩, false, 4#8) := by decide
theorem test_kil :
    after (step (withRom (testState 0#8 0#8 0#8 0x24#8 []) [(0, 0x02#8)]))
      (fun t => (t.cpu.pc, t.cpu.isKilled, t.cpu.totalCycles, t.cpu.cyclesLeft)) = some (0x8001#16, true, 1#64, 1#8) := by
  decide
theorem test_killed_is_frozen :
    after (step ((testState 0#8 0#8 0#8 0x24#8 []).setCpu { State.reset.cpu with isKilled := true, nmiDue := true }))
      (fun t => (t.cpu.isKilled, t.cpu.totalCycles, t.cpu.cyclesLeft)) = some (true, 0#64, 7#8) := by decide
theorem test_xaa : after (exec (.xaaImm 0xFF#8) (testState 0x12#8 0#8 0#8 0x24#8 []))
    (fun t => (t.cpu.pc, t.cpu.isKilled, t.cpu.a)) = some (0x8002#16, true, 0x12#8) := by decide
theorem test_shy : after (exec (.shyAbx 0x0200#16) (testState 0xFF#8 0#8 0xFF#8 0x24#8 []))
    (fun t => (t.cpu.pc, t.cpu.isKilled, t.bus.ram)) = some (0x8003#16, true, []) := by decide
theorem test_shx : after (exec (.shxAby 0x0200#16) (testState 0xFF#8 0xFF#8 0#8 0x24#8 []))
    (fun t => (t.cpu.pc, t.cpu.isKilled, t.bus.ram)) = some (0x8003#16, true, []) := by decide
theorem test_tas : after (exec (.tasAby 0x0200#16) (testState 0xFF#8 0xFF#8 0#8 0x24#8 []))
    (fun t => (t.cpu.s, t.cpu.isKilled, t.bus.ram)) = some (0xFD#8, true, []) := by decide
theorem test_ahx : after (exec (.ahxIzy 0x10#8) (testState 0xFF#8 0xFF#8 4#8 0x24#8 [(0x10, 0x00#8), (0x11, 0x03#8)]))
    (fun t => (t.cpu.pc, t.cpu.isKilled, t.bus.ram, t.cpu.cyclesLeft)) = some (0x8002#16, true, [(0x11, 0x03#8)], 2#8) := by
  decide
/-- 92 D14: an unstable opcode too loads CyclesLeft with 2 and counts it once, in the tick that kills. -/
theorem test_ahx_freezes_at_one :
    after (step (withRom (testState 0#8 0#8 0#8 0x24#8 []) [(0, 0x9F#8), (1, 0x00#8), (2, 0x02#8)]))
      (fun t => (t.cpu.pc, t.cpu.isKilled, t.cpu.totalCycles, t.cpu.cyclesLeft)) = some (0x8003#16, true, 1#64, 1#8) := by
  decide

/-! ## The rest of the machine (95 sections 1 and 2.8 to 2.15) -/

/-- A state with the PPU changed. -/
def withPpu (f : Ppu → Ppu) : State := State.reset.setPpu (f State.reset.ppu)

/-- The PPU after two CPU writes. -/
def afterWrites (s : State) (a1 : Word) (v1 : Byte) (a2 : Word) (v2 : Byte) : Ppu := (memWrite (memWrite s a1 v1) a2 v2).ppu

/-- The cartridge of 95 section 2.12: MMC1, 8 PRG banks, each bank's first byte its number. -/
def mmc1State : State :=
  { State.reset with cart := { State.reset.cart with
      mapper := .mmc1, prgBanks := 8
      rom := [(0x4000, 1#8), (0x8000, 2#8), (0xC000, 3#8), (0x10000, 4#8), (0x14000, 5#8), (0x18000, 6#8), (0x1C000, 7#8)] } }

/-- Five bit writes. -/
def writeFive (s : State) (a : Word) (v1 v2 v3 v4 v5 : Byte) : State :=
  memWrite (memWrite (memWrite (memWrite (memWrite s a v1) a v2) a v3) a v4) a v5

/-- E3: write then read gives the value before, clock commits it; set and clear act on the staged half. -/
theorem test_clocked :
    (Clocked.zero.write 0x80#8).read = 0x00#8 ∧ (Clocked.zero.write 0x80#8).clock.read = 0x80#8 ∧
    (Clocked.set ⟨0x80#8, 0x80#8⟩ 6) = ⟨0x80#8, 0xC0#8⟩ ∧ (Clocked.clear ⟨0xE0#8, 0xE0#8⟩ 7) = ⟨0xE0#8, 0x60#8⟩ := by decide

/-- E9: the commit happens only at phase 1. -/
theorem test_commit_phase :
    (ppuClockRegisters { State.reset.ppu with ctrl := ⟨0x00#8, 0x80#8⟩, ppuPhase := 0 }).ctrl = ⟨0x00#8, 0x80#8⟩ ∧
    (ppuClockRegisters { State.reset.ppu with ctrl := ⟨0x00#8, 0x80#8⟩, ppuPhase := 1 }).ctrl = ⟨0x80#8, 0x80#8⟩ ∧
    (ppuClockRegisters { State.reset.ppu with ctrl := ⟨0x00#8, 0x80#8⟩, ppuPhase := 2 }).ctrl = ⟨0x00#8, 0x80#8⟩ := by decide

/-- E5. -/
theorem test_palette_aliases :
    (ppuRead (ppuWrite State.reset 0x3F10#14 0x2A#8) 0x3F00#14).1 = 0x2A#8 ∧
    (ppuRead (ppuWrite State.reset 0x3F0C#14 0x3A#8) 0x3F1C#14).1 = 0x3A#8 ∧
    (ppuRead (ppuWrite State.reset 0x3F11#14 0x05#8) 0x3F01#14).1 = 0x00#8 ∧
    (ppuRead (ppuWrite State.reset 0x3F25#14 0xC7#8) 0x3F05#14).1 = 0xC7#8 := by decide

/-- E7: 0xFFFC/0xFFFD hold 0x34, 0xC2. -/
theorem test_system_reset :
    (withRom (testState 1#8 2#8 3#8 0xFF#8 []) [(0x3FFC, 0x34#8), (0x3FFD, 0xC2#8)]).systemReset.cpu
      = Cpu.afterReset 1#8 2#8 3#8 0xC234#16 := by decide

/-- E8: with an opaque background pixel and sprite 0's pixel due, the hit is staged at dot 10 and not at dot 255. -/
theorem test_sprite_zero_hit :
    let p := { State.reset.ppu with
      mask := ⟨0x18#8, 0x18#8⟩, vCount := 5, hCount := 10, bgPatLo := 0xFFFF#16, sprCount := 1, spr0InLine := true
      sprites := [⟨0xFF#8, 0x00#8, 0x00#8, 0x00#8⟩] }
    (compositeDot (State.reset.setPpu p)).ppu.status.new = 0x40#8 ∧
    (compositeDot (State.reset.setPpu { p with hCount := 255 })).ppu.status.new = 0x00#8 ∧
    (compositeDot (State.reset.setPpu { p with mask := ⟨0x10#8, 0x10#8⟩ })).ppu.status.new = 0x00#8 := by decide

/-- 2.9: RAM mirrors, a write-only register, the unmapped region, PRG RAM, the vector's place. -/
theorem test_memory_map :
    peek (memWrite State.reset 0x0000#16 0x12#8) 0x1800#16 = 0x12#8 ∧ peek State.reset 0x3456#16 = 0x00#8 ∧
    (memWrite State.reset 0x2008#16 0x80#8).ppu.ctrl = ⟨0x00#8, 0x80#8⟩ ∧ peek State.reset 0x5000#16 = 0x00#8 ∧
    peek (memWrite State.reset 0x6000#16 0x99#8) 0x6000#16 = 0x99#8 ∧
    peek (withRom State.reset [(0x3FFC, 0x77#8)]) 0xFFFC#16 = 0x77#8 := by decide
theorem test_io_write_event :
    (memWrite State.reset 0x4016#16 0x01#8).out.ioWrites = [⟨0x4016#16, 0x01#8, 0#64⟩] ∧
    (memWrite State.reset 0x4016#16 0x01#8).bus = State.reset.bus := by decide

/-- 2.10: the trigger, the wait in an even and an odd cycle, one transfer into OAM 0x10. -/
theorem test_dma_trigger :
    (memWrite State.reset 0x4014#16 0x02#8).bus.dmaState = .waiting ∧
    (memWrite State.reset 0x4014#16 0x02#8).bus.dmaBase = 0x0200#16 ∧
    (dmaStep (State.reset.setBus { State.reset.bus with dmaState := .waiting, busCycle := 18#64 })).bus.dmaState = .waiting ∧
    (dmaStep (State.reset.setBus { State.reset.bus with dmaState := .waiting, busCycle := 15#64 })).bus.dmaState = .running := by
  decide
theorem test_dma_transfer :
    let s := (withPpu fun p => { p with oamAddr := 0x10#8 }).setBus { State.reset.bus with
      ram := [(0x200, 0x5A#8)], dmaState := .running, dmaBase := 0x0200#16 }
    (dmaStep (dmaStep s)).ppu.oam = [(0x10, 0x5A#8)] ∧ (dmaStep (dmaStep s)).ppu.oamAddr = 0x11#8 ∧
    (dmaStep (dmaStep s)).bus.dmaCount = 1 := by decide

/-- 2.11. -/
theorem test_mirroring :
    vramIndex Cart.blank 0x2400#14 = some 0x000 ∧ vramIndex Cart.blank 0x2800#14 = some 0x400 ∧
    vramIndex { Cart.blank with mirror := .vertical } 0x2400#14 = some 0x400 ∧
    vramIndex { Cart.blank with mirror := .vertical } 0x2800#14 = some 0x000 ∧
    vramIndex { Cart.blank with mapper := .mmc1, control := 1#5 } 0x3123#14 = some 0x523 ∧
    vramIndex { Cart.blank with mirror := .four } 0x2000#14 = none := by decide

/-- 2.12. -/
theorem test_mmc1_mode3 :
    let s := writeFive mmc1State 0xE000#16 1#8 0#8 1#8 0#8 0#8
    s.cart.prgBank = 5#5 ∧ peek s 0x8000#16 = 5#8 ∧ peek s 0xC000#16 = 7#8 := by decide
theorem test_mmc1_mode2_wraps :
    let s := writeFive (writeFive mmc1State 0x8000#16 0#8 0#8 0#8 1#8 0#8) 0xE000#16 1#8 0#8 0#8 1#8 0#8
    s.cart.control = 8#5 ∧ mirrorMode s.cart = .single 0 ∧ s.cart.prgBank = 9#5 ∧ peek s 0xC000#16 = 1#8 := by decide
theorem test_mmc1_mode0 :
    let s := writeFive (writeFive mmc1State 0x8000#16 0#8 1#8 0#8 0#8 0#8) 0xE000#16 1#8 1#8 0#8 0#8 0#8
    s.cart.control = 2#5 ∧ mirrorMode s.cart = .vertical ∧ peek s 0x8000#16 = 2#8 ∧ peek s 0xC000#16 = 3#8 := by decide
theorem test_mmc1_reset_write :
    (memWrite (memWrite mmc1State 0xE000#16 1#8) 0x8000#16 0x80#8).cart.shift = 0x10#5 ∧
    (memWrite { mmc1State with cart := { mmc1State.cart with control := 2#5 } } 0x8000#16 0x80#8).cart.control = 0x0E#5 := by
  decide

/-- 2.13. -/
theorem test_scroll_writes :
    (memWrite State.reset 0x2005#16 0x7D#8).ppu.t = 0x000F#15 ∧ (memWrite State.reset 0x2005#16 0x7D#8).ppu.x = 5#3 ∧
    (afterWrites State.reset 0x2005#16 0x7D#8 0x2005#16 0x5E#8).t = 0x616F#15 ∧
    (memWrite State.reset 0x2000#16 0x03#8).ppu.t = 0x0C00#15 := by decide
theorem test_addr_writes :
    (memWrite State.reset 0x2006#16 0xFF#8).ppu.t = 0x3F00#15 ∧
    (afterWrites State.reset 0x2006#16 0x3F#8 0x2006#16 0x10#8).v = 0x3F10#15 ∧
    (afterWrites State.reset 0x2006#16 0x3F#8 0x2006#16 0x10#8).w = false := by decide
theorem test_data_read_buffered :
    let s := (withPpu fun p => { p with v := 0x2000#15 }).setBus { State.reset.bus with vram := [(0, 0x11#8), (1, 0x22#8)] }
    (memRead s 0x2007#16).1 = 0x00#8 ∧ (memRead (memRead s 0x2007#16).2 0x2007#16).1 = 0x11#8 ∧
    (memRead (memRead s 0x2007#16).2 0x2007#16).2.ppu.readBuffer = 0x22#8 ∧
    (memRead (memRead s 0x2007#16).2 0x2007#16).2.ppu.v = 0x2002#15 := by decide
theorem test_data_read_palette :
    let s := (withPpu fun p => { p with v := 0x3F00#15 }).setBus
      { State.reset.bus with palette := [(0, 0x2A#8)], vram := [(0x700, 0x33#8)] }
    (memRead s 0x2007#16).1 = 0x2A#8 ∧ (memRead s 0x2007#16).2.ppu.readBuffer = 0x33#8 ∧
    (memRead s 0x2007#16).2.ppu.v = 0x3F01#15 := by decide
theorem test_data_write_wraps :
    (memWrite (withPpu fun p => { p with v := 0x7FFF#15 }) 0x2007#16 1#8).ppu.v = 0x0000#15 ∧
    (memWrite (withPpu fun p => { p with v := 0x2000#15, ctrl := ⟨4#8, 4#8⟩ }) 0x2007#16 1#8).ppu.v = 0x2020#15 := by decide
theorem test_oam_data_writes :
    (memWrite (memWrite (memWrite State.reset 0x2003#16 0xFF#8) 0x2004#16 2#8) 0x2004#16 3#8).ppu.oam = [(0, 3#8), (0xFF, 2#8)] ∧
    (memWrite (memWrite (memWrite State.reset 0x2003#16 0xFF#8) 0x2004#16 2#8) 0x2004#16 3#8).ppu.oamAddr = 1#8 := by decide

/-- 2.14. -/
theorem test_v_updates :
    incrementCoarseX 0x001F#15 = 0x0400#15 ∧ incrementCoarseX 0x041F#15 = 0x0000#15 ∧ incrementY 0x73A0#15 = 0x0800#15 ∧
    incrementY 0x73C0#15 = 0x03E0#15 ∧ incrementY 0x73E0#15 = 0x0000#15 ∧ incrementY 0x70A3#15 = 0x00C3#15 := by decide
theorem test_fetch_addresses :
    attributeAddr 0x0146#15 = 0x23D1#14 ∧ attributeBits 0x0146#15 0xC0#8 = 3#2 ∧ attributeAddr 0x0C7F#15 = 0x2FC7#14 ∧
    nametableAddr 0x6C7F#15 = 0x2C7F#14 ∧
    bgPatternAddr { State.reset.ppu with ctrl := ⟨0x10#8, 0x10#8⟩, nextTileId := 0x12#8, v := 0x3000#15 } = 0x1123#14 := by
  decide

/-- 2.15: the skipped dot on an odd frame with rendering enabled, and the vblank dot. -/
theorem test_skipped_dot :
    (advanceDot true { State.reset.ppu with hCount := 339, isEvenFrame := false }).vCount = 0 ∧
    (advanceDot true { State.reset.ppu with hCount := 339, isEvenFrame := true }).hCount = 340 ∧
    (statusEvents { State.reset.ppu with vCount := 241, hCount := 1 }).status = ⟨0x00#8, 0x80#8⟩ := by decide
/-- 2.15: Y = 4 shows on lines 5 to 12 (found on 4 to 11), Y = 0xEF and 0xFF never. -/
theorem test_sprite_range :
    spriteInRange 3 4#8 8 = false ∧ spriteInRange 4 4#8 8 = true ∧ spriteInRange 11 4#8 8 = true ∧
    spriteInRange 12 4#8 8 = false ∧ spriteInRange 238 0xEF#8 8 = false ∧ spriteInRange 239 0xFF#8 8 = false := by decide
theorem test_sprite_flip : flipped 0x40#8 0x01#8 = 0x80#8 ∧ flipped 0x00#8 0x01#8 = 0x01#8 := by decide
/-- 2.15: backdrop, background palette 1, sprite palette 4 and 7, priority. -/
theorem test_pixel_addresses :
    pixelAddr (muxPixel (0#2, 2#2) none) = 0x3F00#14 ∧ pixelAddr (muxPixel (3#2, 1#2) none) = 0x3F07#14 ∧
    pixelAddr (muxPixel (0#2, 0#2) (some ⟨1#2, 4#3, true, 0⟩)) = 0x3F11#14 ∧
    pixelAddr (muxPixel (3#2, 1#2) (some ⟨2#2, 7#3, false, 0⟩)) = 0x3F1E#14 ∧
    pixelAddr (muxPixel (3#2, 1#2) (some ⟨2#2, 7#3, true, 0⟩)) = 0x3F07#14 := by decide

/-- 2.8: the NMI and IRQ sequences. -/
theorem test_nmi_sequence :
    after (dispatch ((withRom (testState 0#8 0#8 0#8 0xA4#8 []) [(0x3FFA, 0x20#8), (0x3FFB, 0x80#8)]).setCpu
      { (testState 0#8 0#8 0#8 0xA4#8 []).cpu with pc := 0x8005#16, nmiDue := true, irqDue := true }))
      (fun t => (t.cpu.pc, t.cpu.p, t.cpu.nmiDue, t.bus.ram))
      = some (0x8020#16, 0xA4#8, false, [(0x1FB, 0xA4#8), (0x1FC, 0x05#8), (0x1FD, 0x80#8)]) := by decide
theorem test_irq_sequence :
    after (dispatch ((withRom (testState 0#8 0#8 0#8 0x20#8 []) [(0x3FFE, 0x00#8), (0x3FFF, 0x90#8)]).setCpu
      { (testState 0#8 0#8 0#8 0x20#8 []).cpu with pc := 0x8001#16, irqDue := true }))
      (fun t => (t.cpu.pc, t.cpu.p, t.cpu.s, t.bus.ram))
      = some (0x9000#16, 0x24#8, 0xFA#8, [(0x1FB, 0x20#8), (0x1FC, 0x01#8), (0x1FD, 0x80#8)]) := by decide
/-- 2.8: an edge is pending after the tick that follows it, a level asserted after the next. -/
theorem test_detection_delay :
    (detectNmi State.reset.cpu true).nmiPending = false ∧ (detectNmi (detectNmi State.reset.cpu true) true).nmiPending = true ∧
    (detectIrq State.reset.cpu true).irqAsserted = false ∧ (detectIrq (detectIrq State.reset.cpu true) false).irqAsserted = true := by
  decide
/-- A nametable access under FOUR is refused (2.11). -/
theorem test_four_refused :
    refusalOf (exec (.ldaAbs 0x2007#16) { (testState 0#8 0#8 0#8 0x24#8 []).setPpu { State.reset.ppu with v := 0x2000#15 } with
      cart := { Cart.blank with mirror := .four } }) = some .fourScreenUnmodelled := by decide

/-! ## Witnesses: for each obligation with hypotheses, states and operands that meet all of them together -/

/-- Whether a step answers a next state. -/
def steps (s : State) : Bool := (after (step s) fun _ => ()).isSome

/-- Whether an instruction answers a next state. -/
def runs (i : Instr) (s : State) : Bool := (after (exec i s) fun _ => ()).isSome

theorem next_of_steps {s : State} (h : steps s = true) : ∃ t, step s = .next t := by
  unfold steps at h
  generalize step s = r at h
  cases r with
  | next t => exact ⟨t, rfl⟩
  | fault e => exact nomatch e
  | refused e => exact absurd h Bool.false_ne_true

theorem next_of_runs {i : Instr} {s : State} (h : runs i s = true) : ∃ t, exec i s = .next t := by
  unfold runs at h
  generalize exec i s = r at h
  cases r with
  | next t => exact ⟨t, rfl⟩
  | fault e => exact nomatch e
  | refused e => exact absurd h Bool.false_ne_true

/-- A statement about the elements of a list, decided element by element. -/
theorem all_mem {α : Type} {p : α → Prop} [DecidablePred p] {l : List α} (h : (l.all fun x => decide (p x)) = true) :
    ∀ x ∈ l, p x := by
  simpa using h

/-- A killed CPU. -/
def killedState : State := State.reset.setCpu { State.reset.cpu with isKilled := true }

/-- A ready state of DMA just RUNNING on page `base`. -/
def dmaState (base : Word) : State :=
  State.reset.setBus { State.reset.bus with dmaState := .running, dmaBase := base, ram := [(0x200, 0x5A#8)] }

/-- A state under FOUR. -/
def fourState : State := { State.reset with cart := { Cart.blank with mirror := .four } }

/-- O3: a decoded list with bytes left over; an empty and a truncated list for the third clause. -/
theorem witness_EncodeDecodeRoundTrip :
    decode [0xA9#8, 0x80#8, 0x11#8] = .ok (.ldaImm 0x80#8, [0x11#8]) ∧ decode [0xFF#8, 0xFF#8, 0xFF#8] = .ok (.iscAbx 0xFFFF#16, []) ∧
    decode [] = .error .noOpcode ∧ decode [0xAD#8, 0x01#8] = .error (.missingOperand 0xAD#8) := by decide

/-- O4: the PC in RAM with a three-byte instruction, and at 0xFFFF with one whose operand wraps to RAM. -/
theorem witness_StepRunsDecodedInstruction :
    let s := testAt 0x0000#16 0xFD#8 0x24#8 [(0, 0x8D#8), (2, 0x02#8)]
    let t := withRom (testAt 0xFFFF#16 0xFD#8 0x24#8 [(0, 0x80#8)]) [(0x3FFF, 0xA9#8)]
    (s.refusal = none ∧ s.cpu.phase = .rise ∧ s.cpu.isKilled = false ∧ s.cpu.cyclesLeft = 0#8 ∧ s.cpu.nmiDue = false ∧
      s.cpu.irqDue = false ∧ s.bus.dmaState ≠ .running) ∧
    (let u := s.setCpu { s.cpu with nmiDue := true, irqDue := true }
     u.refusal = none ∧ u.cpu.phase = .rise ∧ u.cpu.isKilled = false ∧ u.cpu.cyclesLeft = 0#8 ∧ u.bus.dmaState ≠ .running) ∧
    (∀ k < 3, storable (s.cpu.pc + BitVec.ofNat 16 k) = true) ∧ decode (bytesAt s s.cpu.pc 3) = .ok (.staAbs 0x0200#16, []) ∧
    (t.refusal = none ∧ t.cpu.phase = .rise ∧ t.cpu.isKilled = false ∧ t.cpu.cyclesLeft = 0#8 ∧ t.cpu.nmiDue = false ∧
      t.cpu.irqDue = false ∧ t.bus.dmaState ≠ .running) ∧
    (∀ k < 2, storable (t.cpu.pc + BitVec.ofNat 16 k) = true) ∧ decode (bytesAt t t.cpu.pc 2) = .ok (.ldaImm 0x80#8, []) ∧
    (Instr.ldaImm 0x80#8).wellFormed = true := by decide

/-- O5: counting down from 7 and from 1; a killed CPU. -/
theorem witness_CpuIdleCycles :
    State.reset.cpu.phase = .rise ∧ State.reset.cpu.isKilled = false ∧ State.reset.cpu.cyclesLeft ≠ 0#8 ∧
    State.reset.bus.dmaState ≠ .running ∧ (∃ t, step State.reset = .next t) ∧
    (∃ t, step (State.reset.setCycles 1#8) = .next t) ∧
    killedState.cpu.phase = .rise ∧ killedState.cpu.isKilled = true ∧ (∃ t, step killedState = .next t) :=
  ⟨rfl, rfl, by decide, by decide, next_of_steps (by decide), next_of_steps (by decide), rfl, rfl,
    next_of_steps (by decide)⟩

/-- O6: the top flag, and the two extremes of the signed sum. -/
theorem witness_FlagBitsAndSignedOverflow :
    getFlag (withFlag 0x00#8 7 true) 7 = true ∧ getFlag (withFlag 0xFF#8 7 true) 0 = true ∧
    adcOverflow 0x80#8 0x80#8 (adcResult 0x80#8 0x80#8 false) = true ∧
    adcOverflow 0x7F#8 0x7F#8 (adcResult 0x7F#8 0x7F#8 true) = true ∧
    adcOverflow 0x7F#8 0x80#8 (adcResult 0x7F#8 0x80#8 true) = false := by decide

/-- O7: an indirect pointer at a page end, and at the top of memory. -/
theorem witness_AddressingModesExplicit :
    ((0x1200#16).toNat = (0x12FF#16).toNat / 256 * 256 + ((0x12FF#16).toNat + 1) % 256 ∧ storable 0x12FF#16 = true ∧
      storable 0x1200#16 = true) ∧
    ((0xFF00#16).toNat = (0xFFFF#16).toNat / 256 * 256 + ((0xFFFF#16).toNat + 1) % 256 ∧ storable 0xFFFF#16 = true ∧
      storable 0xFF00#16 = true) := by decide

/-- O8 to O22: a ready state. Each list of forms they range over has an element. -/
theorem witness_ready : State.reset.Ready ∧ (testState 0xFF#8 0xFF#8 0xFF#8 0xEF#8 []).Ready ∧ mmc1State.Ready ∧
    ¬ fourState.Ready ∧ fourState.refusal = none := by decide
theorem witness_forms :
    (ldaForms 0xFF#8 0xFFFF#16).length = 8 ∧ (ldxForms 0xFF#8 0xFFFF#16).length = 5 ∧ (ldyForms 0xFF#8 0xFFFF#16).length = 5 ∧
    (staForms 0xFF#8 0xFFFF#16).length = 7 ∧ (stxForms 0xFF#8 0xFFFF#16).length = 3 ∧ (styForms 0xFF#8 0xFFFF#16).length = 3 ∧
    (adcForms 0xFF#8 0xFFFF#16).length = 8 ∧ (sbcForms 0xFF#8 0xFFFF#16).length = 9 ∧ (andForms 0xFF#8 0xFFFF#16).length = 8 ∧
    (oraForms 0xFF#8 0xFFFF#16).length = 8 ∧ (eorForms 0xFF#8 0xFFFF#16).length = 8 ∧ (cmpForms 0xFF#8 0xFFFF#16).length = 8 ∧
    (cpxForms 0xFF#8 0xFFFF#16).length = 3 ∧ (cpyForms 0xFF#8 0xFFFF#16).length = 3 ∧ (bitForms 0xFF#8 0xFFFF#16).length = 2 ∧
    (incForms 0xFF#8 0xFFFF#16).length = 4 ∧ (decForms 0xFF#8 0xFFFF#16).length = 4 ∧ (aslForms 0xFF#8 0xFFFF#16).length = 5 ∧
    (lsrForms 0xFF#8 0xFFFF#16).length = 5 ∧ (rolForms 0xFF#8 0xFFFF#16).length = 5 ∧ (rorForms 0xFF#8 0xFFFF#16).length = 5 ∧
    (jmpForms 0xFF#8 0xFFFF#16).length = 2 ∧ (branchForms 0xFF#8).length = 8 := by decide
theorem witness_undocumented_forms :
    (sloForms 0xFF#8 0xFFFF#16).length = 7 ∧ (rlaForms 0xFF#8 0xFFFF#16).length = 7 ∧ (sreForms 0xFF#8 0xFFFF#16).length = 7 ∧
    (rraForms 0xFF#8 0xFFFF#16).length = 7 ∧ (dcpForms 0xFF#8 0xFFFF#16).length = 7 ∧ (iscForms 0xFF#8 0xFFFF#16).length = 7 ∧
    (laxForms 0xFF#8 0xFFFF#16).length = 7 ∧ (nopForms 0xFF#8 0xFFFF#16).length = 28 ∧ (saxForms 0xFF#8 0xFFFF#16).length = 4 ∧
    (ancForms 0xFF#8 0xFFFF#16).length = 2 ∧ (alrForms 0xFF#8 0xFFFF#16).length = 1 ∧ (arrForms 0xFF#8 0xFFFF#16).length = 1 ∧
    (axsForms 0xFF#8 0xFFFF#16).length = 1 ∧ (lasForms 0xFF#8 0xFFFF#16).length = 1 ∧ (kilForms 0xFF#8 0xFFFF#16).length = 12 ∧
    (ahxForms 0xFF#8 0xFFFF#16).length = 2 ∧ (tasForms 0xFF#8 0xFFFF#16).length = 1 ∧ (shyForms 0xFF#8 0xFFFF#16).length = 1 ∧
    (shxForms 0xFF#8 0xFFFF#16).length = 1 ∧ (xaaForms 0xFF#8 0xFFFF#16).length = 1 := by decide

/-- O14: as O7 for the indirect jump; ready states with S at both ends. -/
theorem witness_JumpsComplete :
    (testAt 0x8000#16 0x00#8 0x24#8 []).Ready ∧ (testAt 0xFFFF#16 0xFF#8 0x24#8 []).Ready ∧
    (0x1200#16).toNat = (0x12FF#16).toNat / 256 * 256 + ((0x12FF#16).toNat + 1) % 256 ∧ storable 0x12FF#16 = true ∧
    storable 0x1200#16 = true := by decide

/-- O15: NmiDue with IrqDue, IrqDue alone, neither; S = 0, where the pushes wrap. -/
theorem witness_TrapSavesAndChanges :
    let s := testAt 0x8005#16 0x00#8 0xA4#8 []
    let n := s.setCpu { s.cpu with nmiDue := true, irqDue := true }
    let q := s.setCpu { s.cpu with irqDue := true }
    (n.Ready ∧ n.cpu.nmiDue = true) ∧ (q.Ready ∧ q.cpu.nmiDue = false ∧ q.cpu.irqDue = true) ∧ s.Ready := by decide

/-- O16: a branch whose target is on another page, and one with offset -128. -/
theorem witness_BranchesComplete :
    (testAt 0x80FD#16 0xFD#8 0x24#8 []).Ready ∧ ∃ f ∈ branchForms 0x80#8, ∃ next target : Word,
      next = (testAt 0x80FD#16 0xFD#8 0x24#8 []).cpu.pc + 2#16 ∧ target = next + (0x80#8).signExtend 16 :=
  ⟨by decide, _, List.mem_cons_self .., _, _, rfl, rfl⟩

/-- O21: a kill opcode that reads its pointer, in a ready state. -/
theorem witness_KillOpcodesKill :
    State.reset.Ready ∧ (⟨.ahxIzy 0xFF#8, 0x93#8, .izy, zeroPage 0xFF#8, 6#8, false⟩ : Form) ∈
      kilForms 0xFF#8 0#16 ++ ahxForms 0xFF#8 0#16 ++ tasForms 0xFF#8 0#16 ++ shyForms 0xFF#8 0#16 ++ shxForms 0xFF#8 0#16
        ++ xaaForms 0xFF#8 0#16 := by decide

/-- O23: an instruction that answers, outside and inside each list. -/
theorem witness_RegisterFrame :
    (∃ t, exec .nop State.reset = .next t) ∧ opcodeOf .nop ∉ opcodesWritingA ∧ opcodeOf .nop ∉ opcodesWritingX ∧
    opcodeOf .nop ∉ opcodesWritingY ∧ opcodeOf .nop ∉ opcodesWritingS ∧ opcodeOf .nop ∉ killOpcodes ∧
    (∃ t, exec .kil02 State.reset = .next t) ∧ opcodeOf .kil02 ∈ killOpcodes :=
  ⟨next_of_runs (by decide), by decide, by decide, by decide, by decide, by decide, next_of_runs (by decide), by decide⟩

/-- O24: a store beside which a byte lies, at the ends of RAM's mirrors and of PRG RAM; an instruction that stores
nothing to the PPU or the mapper, and a byte at the bottom and the top of ROM. -/
theorem witness_MemoryFrame :
    (∃ t, exec (.staAbs 0x1FFF#16) State.reset = .next t) ∧
    (storable 0x0000#16 = true ∧ (0x0000#16 < 0x8000#16) ∧
      ∀ x ∈ storedAddrs (.staAbs 0x1FFF#16) State.reset, ¬ sameCell 0x0000#16 x) ∧
    (storable 0x7FFF#16 = true ∧ (0x7FFF#16 < 0x8000#16) ∧
      ∀ x ∈ storedAddrs (.staAbs 0x1FFF#16) State.reset, ¬ sameCell 0x7FFF#16 x) ∧
    (∀ x ∈ storedAddrs (.staAbs 0x1FFF#16) State.reset, ¬ (0x2000#16 ≤ x ∧ x < 0x4000#16)) ∧
    (∀ x ∈ storedAddrs (.staAbs 0x1FFF#16) State.reset, x < 0x8000#16) ∧ 0x8000#16 ≤ 0x8000#16 ∧ 0x8000#16 ≤ 0xFFFF#16 ∧
    sameCell 0x07FF#16 0x1FFF#16 ∧ storedAddrs (.staAbs 0x1FFF#16) State.reset = [0x1FFF#16] ∧
    storedAddrs .brk State.reset = [0x01FD#16, 0x01FC#16, 0x01FB#16] :=
  ⟨next_of_runs (by decide), ⟨by decide, by decide, all_mem (by decide)⟩, ⟨by decide, by decide, all_mem (by decide)⟩,
    all_mem (by decide), all_mem (by decide), by decide, by decide, by decide, by decide, by decide⟩

/-- O25: stores just outside each region: below 0x2000, beside 0x4014, below 0x8000, at 0x4018. -/
theorem witness_UnitFrame :
    (∃ t, exec (.staAbs 0x1FFF#16) State.reset = .next t) ∧ (∃ t, exec (.staAbs 0x4015#16) State.reset = .next t) ∧
    (∃ t, exec (.staAbs 0x7FFF#16) State.reset = .next t) ∧ (∃ t, exec (.staAbs 0x4018#16) State.reset = .next t) ∧
    (∀ x ∈ storedAddrs (.staAbs 0x1FFF#16) State.reset, ¬ (0x2000#16 ≤ x ∧ x < 0x4000#16)) ∧
    0x4014#16 ∉ storedAddrs (.staAbs 0x4015#16) State.reset ∧
    (∀ x ∈ storedAddrs (.staAbs 0x7FFF#16) State.reset, x < 0x8000#16) ∧
    (∀ x ∈ storedAddrs (.staAbs 0x4018#16) State.reset, ¬ (0x4000#16 ≤ x ∧ x < 0x4018#16)) :=
  ⟨next_of_runs (by decide), next_of_runs (by decide), next_of_runs (by decide), next_of_runs (by decide),
    all_mem (by decide), by decide, all_mem (by decide), all_mem (by decide)⟩

/-- O26: P in its stored form with every flag set, S at the ends of the stack page. -/
theorem witness_RoundTripsThroughTheStack :
    let s := testAt 0xFFFF#16 0x00#8 0xEF#8 [(0x100, 1#8)]
    let t := testAt 0x0000#16 0xFF#8 0x20#8 []
    (s.Ready ∧ Memory.wf s.bus.ram ∧ s.cpu.p.getLsbD 4 = false ∧ s.cpu.p.getLsbD 5 = true) ∧
    (t.Ready ∧ Memory.wf t.bus.ram ∧ t.cpu.p.getLsbD 4 = false ∧ t.cpu.p.getLsbD 5 = true) := by decide

/-- O27: both interrupts due; an instruction with one cycle left. -/
theorem witness_InterruptPriority :
    let s := State.reset.setCpu { State.reset.cpu with nmiDue := true, irqDue := true, cyclesLeft := 1#8 }
    s.Ready ∧ s.cpu.nmiDue = true ∧ s.cpu.irqDue = true ∧ s.cpu.cyclesLeft ≠ 0#8 := by decide

/-- O28: the lookahead tick and the ticks beside it. -/
theorem witness_InterruptDetection :
    (State.reset.setCycles 1#8).cpu.cyclesLeft = 1#8 ∧ (State.reset.setCycles 0#8).cpu.cyclesLeft ≠ 1#8 ∧
    (State.reset.setCycles 2#8).cpu.cyclesLeft ≠ 1#8 := by decide

/-- O29: a running DMA that steps, and the two states in which the CPU ticks. -/
theorem witness_DmaStallsTheCpu :
    (dmaState 0x0200#16).bus.dmaState = .running ∧ (∃ t, step (dmaState 0x0200#16) = .next t) ∧
    State.reset.bus.dmaState ≠ .running ∧
    (State.reset.setBus { State.reset.bus with dmaState := .waiting }).bus.dmaState ≠ .running :=
  ⟨rfl, next_of_steps (by decide +kernel), by decide, by decide⟩

/-- O30: each case, the write half at its last-but-one and last count. -/
theorem witness_DmaStepCases :
    State.reset.bus.dmaState = .idle ∧
    (State.reset.setBus { State.reset.bus with dmaState := .waiting }).bus.dmaState = .waiting ∧
    ((dmaState 0x0200#16).bus.dmaState = .running ∧ (dmaState 0x0200#16).bus.dmaReadPhase = true) ∧
    (let s := (dmaState 0x0200#16).setBus { (dmaState 0x0200#16).bus with dmaReadPhase := false, dmaCount := 254 };
      s.bus.dmaState = .running ∧ s.bus.dmaReadPhase = false ∧ s.bus.dmaCount < 256) ∧
    (let s := (dmaState 0x0200#16).setBus { (dmaState 0x0200#16).bus with dmaReadPhase := false, dmaCount := 255 };
      s.bus.dmaState = .running ∧ s.bus.dmaReadPhase = false ∧ s.bus.dmaCount < 256) := by decide

/-- The first and the last byte of a page lie in the same region, so the bytes between do. -/
theorem storable_page (base : Word) (h : base = 0x0200#16 ∨ base = 0x1F00#16 ∨ base = 0xFF00#16) :
    ∀ k < 256, storable (base + BitVec.ofNat 16 k) = true := by
  intro k hk
  unfold storable
  rw [Bool.or_eq_true, decide_eq_true_iff, decide_eq_true_iff, BitVec.lt_def, BitVec.le_def]
  rcases h with rfl | rfl | rfl <;> simp <;> omega

/-- O31: page 2, the last page below the PPU registers, and the last page of all. -/
theorem witness_DmaCopiesPage :
    ∀ base : Word, base = 0x0200#16 ∨ base = 0x1F00#16 ∨ base = 0xFF00#16 →
      (dmaState base).Ready ∧ Memory.wf (dmaState base).ppu.oam ∧ (dmaState base).bus.dmaState = .running ∧
      (dmaState base).bus.dmaCount = 0 ∧ (dmaState base).bus.dmaReadPhase = true ∧
      ∀ k < 256, storable ((dmaState base).bus.dmaBase + BitVec.ofNat 16 k) = true :=
  fun base h => ⟨⟨rfl, nofun⟩, ⟨.nil, nofun⟩, rfl, rfl, rfl, storable_page base h⟩

/-- O32 and O33: an address the mapper claims at each end of its range, and one it does not on either side of each
region's edge. -/
theorem witness_CpuReadDecode :
    mapperReadCpu State.reset.cart 0x6000#16 = some 0#8 ∧ mapperReadCpu State.reset.cart 0xFFFF#16 = some 0#8 ∧
    ∀ a ∈ [0x0000#16, 0x1FFF#16, 0x2000#16, 0x3FFF#16, 0x4000#16, 0x4017#16, 0x4018#16, 0x5FFF#16],
      mapperReadCpu State.reset.cart a = none := ⟨by decide, by decide, all_mem (by decide)⟩
theorem witness_CpuWriteDecode :
    (mapperWriteCpu State.reset.cart 0x6000#16 1#8).isSome = true ∧ (mapperWriteCpu mmc1State.cart 0xFFFF#16 1#8).isSome = true ∧
    (∀ a ∈ [0x0000#16, 0x1FFF#16, 0x2000#16, 0x2001#16, 0x2002#16, 0x2003#16, 0x2004#16, 0x3FFF#16, 0x4000#16, 0x4014#16,
        0x4017#16, 0x4018#16, 0x5FFF#16], mapperWriteCpu State.reset.cart a 1#8 = none) ∧
    Memory.wf State.reset.ppu.oam ∧
    ∀ a ∈ [0x2004#16, 0x3FFC#16], 0x2000 ≤ a.toNat ∧ a.toNat < 0x4000 ∧ a.toNat % 8 = 4 :=
  ⟨by decide, by decide, all_mem (by decide), by decide, all_mem (by decide)⟩

/-- O34: addresses on both sides of the two reads with a side effect, and the mirrors at the ends. -/
theorem witness_ReadSideEffects :
    (∀ a ∈ [0x1FFF#16, 0x2000#16, 0x2001#16, 0x2003#16, 0x2006#16, 0x4000#16, 0x4007#16],
      ¬ (0x2000 ≤ a.toNat ∧ a.toNat < 0x4000 ∧ (a.toNat % 8 = 2 ∨ a.toNat % 8 = 7))) ∧
    (∀ a ∈ [0x2002#16, 0x3FFA#16], 0x2000 ≤ a.toNat ∧ a.toNat < 0x4000 ∧ a.toNat % 8 = 2) ∧
    (∀ a ∈ [0x2007#16, 0x3FFF#16], 0x2000 ≤ a.toNat ∧ a.toNat < 0x4000 ∧ a.toNat % 8 = 7) ∧
    mirrorMode State.reset.cart ≠ .four ∧ mirrorMode fourState.cart = .four :=
  ⟨all_mem (by decide), all_mem (by decide), all_mem (by decide), by decide, by decide⟩

/-- O35: addresses at the ends of each store, alike and apart; no CHR ROM; FOUR. -/
theorem witness_StoresReadBack :
    (Memory.wf State.reset.bus.ram ∧ (0x0000#16).toNat < 0x2000 ∧ (0x1FFF#16).toNat < 0x2000) ∧
    (Memory.wf State.reset.cart.prgRam ∧ 0x6000 ≤ (0x6000#16).toNat ∧ (0x6000#16).toNat < 0x8000 ∧
      0x6000 ≤ (0x7FFF#16).toNat ∧ (0x7FFF#16).toNat < 0x8000) ∧
    (Memory.wf State.reset.bus.vram ∧ mirrorMode State.reset.cart ≠ .four ∧ 0x2000 ≤ (0x2000#14).toNat ∧
      (0x2000#14).toNat < 0x3F00 ∧ 0x2000 ≤ (0x3EFF#14).toNat ∧ (0x3EFF#14).toNat < 0x3F00) ∧
    (Memory.wf State.reset.bus.pattern ∧ State.reset.cart.chrBanks = 0 ∧ (0x0000#14).toNat < 0x2000 ∧
      (0x1FFF#14).toNat < 0x2000) ∧
    (mirrorMode fourState.cart = .four ∧ 0x2000 ≤ (0x3EFF#14).toNat ∧ (0x3EFF#14).toNat < 0x3F00) := by decide

/-- O36: the ends of the palette region, an alias and its target. -/
theorem witness_PaletteAliases :
    Memory.wf State.reset.bus.palette ∧ 0x3F00 ≤ (0x3F00#14).toNat ∧ 0x3F00 ≤ (0x3FFF#14).toNat ∧
    paletteCell 0x3F10#14 = paletteCell 0x3F00#14 ∧ paletteCell 0x3F11#14 ≠ paletteCell 0x3F01#14 := by decide

/-- O37: the ends of PRG RAM and of each 16 KiB window, under each mapper. -/
theorem witness_PrgMapping :
    (0x6000 ≤ (0x7FFF#16).toNat ∧ (0x7FFF#16).toNat < 0x8000) ∧ (0x8000 ≤ (0x8000#16).toNat ∧ State.reset.cart.mapper = .nrom) ∧
    (0x8000 ≤ (0xBFFF#16).toNat ∧ mmc1State.cart.mapper = .mmc1 ∧ (15 : Nat) = mmc1State.cart.control.toNat ∧
      (3 : Nat) = mmc1State.cart.control.toNat / 4 % 4 ∧ (0 : Nat) = mmc1State.cart.prgBank.toNat % 16) ∧
    0x4000 = (0xC000#16).toNat - 0x8000 := by decide

/-- O38: MMC1 with the port reset, writes at both ends of the window; a reset write. -/
theorem witness_Mmc1SerialPort :
    mmc1State.cart.mapper = .mmc1 ∧ (∀ a ∈ [0x8000#16, 0xFFFF#16, 0xA000#16, 0xC000#16, 0xE000#16], 0x8000 ≤ a.toNat) ∧
    (∀ v ∈ [0x7F#8, 0x00#8, 0x01#8, 0x7E#8, 0x01#8], v.getLsbD 7 = false) ∧ mmc1State.cart.shift = 0x10#5 ∧
    (0x15#5).toNat = (0x7F#8).toNat % 2 + (0x00#8).toNat % 2 * 2 + (0x01#8).toNat % 2 * 4 + (0x7E#8).toNat % 2 * 8
      + (0x01#8).toNat % 2 * 16 ∧
    (0x80#8).getLsbD 7 = true :=
  ⟨rfl, all_mem (by decide), all_mem (by decide), rfl, by decide, by decide⟩

/-- O39: the bit helpers at bit 7. -/
theorem witness_ClockedRegisterLaw : (Clocked.zero.set 7).new.getLsbD 7 = true ∧ (Clocked.zero.set 7).test 7 = false := by decide

/-- O41: the latch clear. -/
theorem witness_ScrollAndAddressWrites : State.reset.ppu.w = false := by decide

/-- O42: V below the palette, and at its first address. -/
theorem witness_PpuPortReads :
    mirrorMode State.reset.cart ≠ .four ∧ (0x3EFF#14).toNat = (0x3EFF#15).toNat % 0x4000 ∧ (0x3EFF#14).toNat < 0x3F00 ∧
    (0x3F00#14).toNat = (0x7F00#15).toNat % 0x4000 ∧ 0x3F00 ≤ (0x3F00#14).toNat := by decide

/-- O43: the first and the last mirror of the data port. -/
theorem witness_DataPortWrite :
    (∀ a ∈ [0x2007#16, 0x3FFF#16], 0x2000 ≤ a.toNat ∧ a.toNat < 0x4000 ∧ a.toNat % 8 = 7) ∧
    (0x3FFF#14).toNat = (0x7FFF#15).toNat % 0x4000 := ⟨all_mem (by decide), by decide⟩

/-- O44: coarse X 31 with the nametable bit clear and set, and 30. -/
theorem witness_CoarseXIncrement :
    (0x001F#15).toNat % 32 = 31 ∧ (0x7FFF#15).toNat % 32 = 31 ∧ (0x001E#15).toNat % 32 ≠ 31 := by decide

/-- O45: fine Y 6 and 7 with coarse Y 29, 30 and 31. -/
theorem witness_VerticalScrollUpdates :
    (7 : Nat) = (0x73A0#15).toNat / 4096 ∧ (29 : Nat) = (0x73A0#15).toNat / 32 % 32 ∧ (0 : Nat) = (0x73A0#15).toNat / 2048 % 2 ∧
    (6 : Nat) = (0x6FE0#15).toNat / 4096 ∧ (31 : Nat) = (0x6FE0#15).toNat / 32 % 32 ∧ (1 : Nat) = (0x6FE0#15).toNat / 2048 % 2 := by
  decide

/-- O46: the two status events, and the dots beside them. -/
theorem witness_DotPositionAndStatus :
    (let p := { State.reset.ppu with vCount := 241, hCount := 1 }; p.vCount = 241 ∧ p.hCount = 1) ∧
    (let p := { State.reset.ppu with hCount := 1 }; p.vCount = 261 ∧ p.hCount = 1) ∧
    (let p := { State.reset.ppu with hCount := 2 }; ¬ ((p.vCount = 241 ∨ p.vCount = 261) ∧ p.hCount = 1)) := by decide

/-- O47: the state after reset steps, with the flag clear. -/
theorem witness_OverflowFlagNeverSet :
    State.reset.ppu.status.current.getLsbD 5 = false ∧ State.reset.ppu.status.new.getLsbD 5 = false ∧
    ∃ t, step State.reset = .next t := ⟨by decide, by decide, next_of_steps (by decide)⟩

/-- O48: the last slot, in use, at bits 0 and 7. -/
theorem witness_HorizontalFlip :
    7 < ({ State.reset.ppu with sprCount := 8 }).sprCount ∧ 7 < ({ State.reset.ppu with sprCount := 8 }).sprites.length ∧
    (0 : Nat) < 8 ∧ (7 : Nat) < 8 := by decide

/-- O49: both pixels transparent. -/
theorem witness_PixelZeroIsUniversalBackground : (muxPixel (0#2, 3#2) none).1 = 0#2 := by decide

/-- O50: the first and the last dot of a visible line's output and the dots beside them; both layers hidden; pixels at the
clip's edge; an opaque slot after seven transparent ones; an opaque sprite pixel; the hit conditions met at dot 256. -/
theorem witness_CompositedPixel :
    (0 ≤ 239 ∧ 1 ≤ 1 ∧ 1 ≤ 256) ∧ ¬ (1 ≤ 0) ∧ ¬ (257 ≤ 256) ∧ (1#2 : BitVec 2) ≠ 0#2 ∧
    (State.reset.ppu.mask.current.getLsbD 3 = false ∧ State.reset.ppu.mask.current.getLsbD 4 = false) ∧
    (15 : Nat) = 15 - State.reset.ppu.x.toNat ∧
    (let p := { State.reset.ppu with
        mask := ⟨0x18#8, 0x18#8⟩, sprCount := 8, sprites := List.replicate 7 SprSlot.zero ++ [⟨0x80#8, 0x00#8, 0xE3#8, 0x00#8⟩] };
      let opaqueAt := fun i : Nat => (spriteSlot p i).x = 0#8 ∧
        ((spriteSlot p i).patHi.getLsbD 7 = true ∨ (spriteSlot p i).patLo.getLsbD 7 = true);
      p.sprCount ≤ p.sprites.length ∧ p.mask.current.getLsbD 4 = true ∧ 8 ≤ 8 ∧
      ¬ (p.mask.current.getLsbD 4 = true ∧ (8 ≤ 7 ∨ p.mask.current.getLsbD 2 = true)) ∧
      7 < p.sprCount ∧ opaqueAt 7 ∧ ∀ k < 7, ¬ opaqueAt k) ∧
    (let p := { State.reset.ppu with
        mask := ⟨0x18#8, 0x18#8⟩, vCount := 5, hCount := 256, bgPatLo := 0xFFFF#16, sprCount := 1, spr0InLine := true,
        sprites := [⟨0xFF#8, 0x00#8, 0x00#8, 0x00#8⟩] };
      p.spr0InLine = true ∧ (spritePixel p (p.hCount - 1)).map SprPixel.slot = some 0 ∧ (bgPixel p (p.hCount - 1)).1 ≠ 0#2 ∧
      p.mask.current.getLsbD 3 = true ∧ p.mask.current.getLsbD 4 = true ∧ 2 ≤ p.hCount ∧ p.hCount < 257 ∧ p.hCount ≠ 255) := by
  decide

/-- O50: over the last dot of a visible line where sprite 0 and the background are opaque, and over the dot shut out. -/
theorem witness_CompositedPixel_hit :
    let s := fun h : Nat => State.reset.setPpu { State.reset.ppu with
      mask := ⟨0x18#8, 0x18#8⟩, vCount := 239, hCount := h, bgPatLo := 0xFFFF#16, sprCount := 1, spr0InLine := true
      sprites := [⟨0xFF#8, 0x00#8, 0x00#8, 0x00#8⟩] }
    let u := (s 256).atCompositing 0
    (s 256).ppu.vCount ≤ 239 ∧ 2 ≤ (s 256).ppu.hCount ∧ (s 256).ppu.hCount < 257 ∧ (s 256).ppu.hCount ≠ 255 ∧
    u.ppu.spr0InLine = true ∧ (spritePixel u.ppu 255).map SprPixel.slot = some 0 ∧ (bgPixel u.ppu 255).1 ≠ 0#2 ∧
    (s 256).ppu.mask.current.getLsbD 3 = true ∧ (s 256).ppu.mask.current.getLsbD 4 = true ∧
    (ppuDotAt 0 (s 256)).ppu.status.new = 0x40#8 ∧ (ppuDotAt 0 (s 255)).ppu.status.new = 0x00#8 := by decide

/-- O51: rendering off; the first and the last line of 240-260. -/
theorem witness_RenderingFrame :
    (State.reset.ppu.mask.current.getLsbD 3 = false ∧ State.reset.ppu.mask.current.getLsbD 4 = false) ∧
    (240 ≤ 240 ∧ 240 ≤ 260) ∧ (240 ≤ 260 ∧ 260 ≤ 260) := by decide

/-- O54: an unsupported ID, ID 1 with no bank, ID 0 with one. -/
theorem witness_PowerOnOutcomes :
    ((4 : Nat) ≠ 0 ∧ (4 : Nat) ≠ 1) ∧ (({ goodCartridge with prgBanks := 0 }).mapperId = 1 ∧
      ({ goodCartridge with prgBanks := 0 }).prgBanks = 0) ∧
    (({ goodCartridge with mapperId := 0, prgBanks := 1 }).mapperId = 0 ∧
      1 ≤ ({ goodCartridge with mapperId := 0, prgBanks := 1 }).prgBanks) := by decide

/-- O55, O56: the invariant holds of a state that steps. -/
theorem witness_StepKeepsInvariant : (State.reset.setCycles 0#8).Inv ∧ ∃ t, step (State.reset.setCycles 0#8) = .next t :=
  ⟨⟨rfl, by decide, by decide, by decide, by decide⟩, next_of_steps (by decide)⟩

/-- O57: a state that steps. -/
theorem witness_StepKeepsCartridge : ∃ t, step mmc1State = .next t := next_of_steps (by decide)

/-- O58: ready states: right after reset, killed, with DMA running. -/
theorem witness_EveryStepAnswers : State.reset.Ready ∧ killedState.Ready ∧ (dmaState 0x0200#16).Ready := by decide

/-- O59: the ends of the pattern region, without and with CHR banks, under each mapper; each CHR mode. -/
theorem witness_ChrMappingAndMirroring :
    ((0x0000#14).toNat < 0x2000 ∧ (0x1FFF#14).toNat < 0x2000 ∧ State.reset.cart.chrBanks = 0) ∧
    (let c := { State.reset.cart with chrBanks := 1 }; 0 < c.chrBanks ∧ c.mapper = .nrom) ∧
    (let c := { mmc1State.cart with chrBanks := 2, control := 0x0F#5 };
      0 < c.chrBanks ∧ c.mapper = .mmc1 ∧ c.control.toNat / 16 = 0 ∧ c.control.toNat % 4 = 3) ∧
    (let c := { mmc1State.cart with chrBanks := 2, control := 0x10#5 };
      0 < c.chrBanks ∧ c.mapper = .mmc1 ∧ c.control.toNat / 16 ≠ 0 ∧ c.control.toNat % 4 = 0 ∧ (0x0FFF#14).toNat < 0x1000 ∧
      ¬ (0x1000#14).toNat < 0x1000) := by decide

/-- A rendering state at a position. -/
def renderState (l h : Nat) : State :=
  State.reset.setPpu { State.reset.ppu with mask := ⟨0x18#8, 0x18#8⟩, vCount := l, hCount := h }

/-- O60, the background: the first and the last visible line and the pre-render line; an address for each fetch. -/
theorem witness_RenderingPipelines_background :
    mirrorMode (renderState 239 257).cart ≠ .four ∧ showsAny (renderState 239 257).ppu = true ∧
    (renderState 239 257).ppu.vCount ≤ 239 ∧ (renderState 261 304).ppu.vCount = 261 ∧
    (let p := { State.reset.ppu with v := 0x7FFF#15, nextTileId := 0xFF#8, ctrl := ⟨0x10#8, 0x10#8⟩ };
      (0x2FFF#14).toNat = 0x2000 + p.v.toNat % 0x1000 ∧
      (0x2FFF#14).toNat = 0x23C0 + p.v.toNat / 1024 % 4 * 1024 + p.v.toNat / 128 % 8 * 8 + p.v.toNat / 4 % 8 ∧
      (0x1FF7#14).toNat = (if p.ctrl.current.getLsbD 4 then 0x1000 else 0) + p.nextTileId.toNat * 16 + p.v.toNat / 4096) := by
  decide

/-- O60, the evaluation: each dot at which a clause begins and ends, with each state of the machine. -/
theorem witness_RenderingPipelines_evaluation :
    (∀ h ∈ [1, 2, 64, 65, 66, 67, 255, 256, 257], (renderState 0 h).ppu.hCount = h ∧ (renderState 0 h).ppu.vCount ≤ 239) ∧
    showsAny (renderState 0 2).ppu = true ∧ showsAny State.reset.ppu = false ∧ 240 ≤ (renderState 240 2).ppu.vCount ∧
    (∀ e ∈ [EvalState.newSprite, .copySprite, .overflow, .done],
      ({ (renderState 0 66).ppu with evalState := e }).evaluation.state = e) ∧
    spriteLinesOf (renderState 0 66) = 8 ∧
    spriteLinesOf { renderState 0 66 with
      params := { defaultParams with spriteSize := .ctrl }
      ppu := { State.reset.ppu with ctrl := ⟨0x20#8, 0x20#8⟩ } } = 16 := by decide

/-- O60, the sprite line: the dots at which a clause begins and ends; a row at the foot of the sprite in slot 0. -/
theorem witness_RenderingPipelines_line :
    (∀ h ∈ [0, 1, 2, 257, 258, 320, 321], (renderState 239 h).ppu.hCount = h ∧ (renderState 239 h).ppu.vCount ≤ 239 ∧
      (renderState 239 h).ppu.sprites.length = 8 ∧ mirrorMode (renderState 239 h).cart ≠ .four) ∧
    (renderState 261 257).ppu.vCount = 261 ∧ showsAny (renderState 239 2).ppu = true ∧
    (let s := renderState 9 260; let p := { s.ppu with secOam := 2#8 :: 0xFF#8 :: List.replicate 30 0xFF#8 };
      (2 : Nat) = (secOamByte p (4 * 0)).toNat ∧ (255 : Nat) = (secOamByte p (4 * 0 + 1)).toNat ∧ p.vCount ≤ 261 ∧
      p.vCount = 2 + 7 ∧ 7 < spriteLinesOf s ∧
      (7 : Nat) = (if (spriteSlot p 0).attr.getLsbD 7 then spriteLinesOf s - 1 - 7 else 7)) := by
  decide

end Sys2Proof.Machine
end

section
/-! PROOFS. The state of the machine (spec/10_state.md): clocked registers, and the values after reset. -/

namespace Sys2Proof.Machine

/-- The mask `1 << b` of `set` and `clear` has bit `b` and no other. -/
theorem bitMask_getLsbD {b : Nat} (hb : b < 8) (j : Nat) : (1#8 <<< b).getLsbD j = decide (j = b) := by
  rw [← BitVec.twoPow_eq, BitVec.getLsbD_twoPow, decide_eq_true hb, Bool.true_and]
  exact decide_eq_decide.mpr eq_comm

/-- `set(b)` turns on bit `b` of the staged half and no other (10 R32). -/
theorem Clocked.set_new_getLsbD (r : Clocked) {b : Nat} (hb : b < 8) (j : Nat) :
    (r.set b).new.getLsbD j = (r.new.getLsbD j || decide (j = b)) := by
  rw [Clocked.set, BitVec.getLsbD_or, bitMask_getLsbD hb]

/-- `clear(b)` turns off bit `b` of the staged half and no other (10 R32). -/
theorem Clocked.clear_new_getLsbD (r : Clocked) {b j : Nat} (hb : b < 8) (hj : j < 8) :
    (r.clear b).new.getLsbD j = (r.new.getLsbD j && decide (j ≠ b)) := by
  rw [Clocked.clear, BitVec.getLsbD_and, BitVec.getLsbD_not, bitMask_getLsbD hb, decide_eq_true hj, Bool.true_and, decide_not]

/-- Settles O39: reads see the current half and writes stage the new one, by definition; `set` and `clear` act on one
bit of the staged half. -/
theorem clockedRegisterLaw : Obligations.ClockedRegisterLaw := by
  intro r v b j hb hj
  exact ⟨r.write_current v, (r.write v).clock_current, r.clock_clock, rfl, rfl, rfl, rfl,
    r.set_current b, r.clear_current b, r.set_new_getLsbD hb j, r.clear_new_getLsbD hb hj⟩

/-- On the blank cartridge of `State.reset` every address of the PRG ROM reads what an unlisted byte reads (logs 1, 3). -/
theorem peek_reset_prgRom {a : Word} (h : 0x8000#16 ≤ a) : peek State.reset a = Config.unlistedByte := by
  have h6 : ¬ a < 0x6000#16 := by bv_omega
  have h8 : ¬ a < 0x8000#16 := BitVec.not_lt.mpr h
  simp only [peek, memRead, mapperReadCpu, if_neg h6, if_neg h8]
  rfl

/-- The reset vector of `State.reset` holds 0x0000. -/
theorem peek16_reset_vector : peek16 State.reset 0xFFFC#16 = 0x0000#16 := by
  rw [peek16, peek_reset_prgRom (by decide), peek_reset_prgRom (by decide)]
  rfl

/-- Settles O52: every field is the one `State.reset` lists, and the PC is what the reset vector holds on the blank
cartridge. -/
theorem resetValues : Obligations.ResetValues :=
  ⟨rfl, rfl, rfl, rfl, rfl, rfl, rfl, rfl, rfl, rfl, rfl, rfl, rfl, rfl, peek16_reset_vector.symm,
    rfl, rfl, rfl, rfl, rfl, rfl, rfl, rfl, rfl, rfl, rfl, rfl, rfl, rfl, rfl⟩

end Sys2Proof.Machine
end

section
/-! PROOFS. The Bus (spec/20_memory.md): the decode of CPU reads and writes, the palette, the stall under DMA, and which
reads change the state. -/

namespace Sys2Proof.Machine

/-! ## The stall under DMA -/

/-- A step of an unmarked state is the CPU's part and what follows it (70 R520). -/
theorem step_eq_cpuPart {s : State} (h : s.refusal = none) : step s = andThen (cpuPart (sampleInputs s)) afterCpu := by
  rw [step, stepFrom, h]
  rfl

/-- While DMA is RUNNING the CPU's part of a cycle is empty (20 R121). -/
theorem cpuPart_running {s : State} (h : s.bus.dmaState = .running) : cpuPart s = .next s := by
  rw [cpuPart, h]

/-- While DMA is not RUNNING the CPU's part of a cycle is two ticks (70 R520). -/
theorem cpuPart_not_running {s : State} (h : s.bus.dmaState ≠ .running) : cpuPart s = andThen (cpuTick s) cpuTick := by
  rw [cpuPart]
  cases hd : s.bus.dmaState with
  | idle => rfl
  | waiting => rfl
  | running => exact absurd hd h

/-- Settles O29: the CPU's part of the cycle is empty, and nothing after it touches the CPU. -/
theorem dmaStallsTheCpu : Obligations.DmaStallsTheCpu := by
  refine ⟨fun s t hd ht => ?_, fun s => cpuPart_not_running⟩
  have hd' : (sampleInputs s).bus.dmaState = .running := hd
  rw [step_eq_cpuPart (refusal_none_of_step ht), cpuPart_running hd', andThen_next] at ht
  exact (afterCpu_next ht).1.cpu

/-! ## The PPU-space decode by region -/

/-- The mapper claims no PPU address from `0x2000` up (21 R162, R163, R174, R175). -/
theorem mapperClaimsPpu_eq_false (c : Cart) {a : PpuAddr} (h : 0x2000#14 ≤ a) : mapperClaimsPpu c a = false := by
  rw [mapperClaimsPpu, decide_eq_false (BitVec.not_lt.mpr h), Bool.and_false]

/-- The mapper answers no PPU read from `0x2000` up. -/
theorem mapperReadPpu_eq_none (c : Cart) {a : PpuAddr} (h : 0x2000#14 ≤ a) : mapperReadPpu c a = none := by
  rw [mapperReadPpu, mapperClaimsPpu_eq_false c h, if_neg Bool.false_ne_true]

/-- A PPU read of the pattern region changes nothing, whoever answers it (20 R109). -/
theorem ppuRead_pattern_snd (s : State) {a : PpuAddr} (h : a < 0x2000#14) : (ppuRead s a).2 = s := by
  rw [ppuRead, if_pos h]
  cases mapperReadPpu s.cart a <;> rfl

/-- A nametable read under FOUR refuses (20 R114). -/
theorem ppuRead_nametable_four {s : State} (hm : mirrorMode s.cart = .four) {a : PpuAddr} (h2 : 0x2000#14 ≤ a)
    (h3 : a < 0x3F00#14) : ppuRead s a = (0#8, s.refuse .fourScreenUnmodelled) := by
  have hv : vramIndex s.cart a = none := by rw [vramIndex, hm]; rfl
  rw [ppuRead, mapperReadPpu_eq_none _ h2]
  simp only [if_neg (BitVec.not_lt.mpr h2), if_pos h3, hv]

/-- The palette index of the model is the entry of the spec's words (20 R115). -/
theorem paletteIndex_eq_paletteCell (a : PpuAddr) : paletteIndex a = paletteCell a := by
  simp only [paletteIndex, paletteCell, List.mem_cons, List.not_mem_nil, or_false]

/-- A palette read (20 R109, R115). -/
theorem ppuRead_palette (s : State) {a : PpuAddr} (h : 0x3F00#14 ≤ a) :
    ppuRead s a = (Memory.read s.bus.palette (paletteCell a), s) := by
  have h2 : 0x2000#14 ≤ a := BitVec.le_trans (by decide) h
  rw [ppuRead, mapperReadPpu_eq_none _ h2, ← paletteIndex_eq_paletteCell]
  simp only [if_neg (BitVec.not_lt.mpr h2), if_neg (BitVec.not_lt.mpr h)]

/-- A palette write (20 R109, R115). -/
theorem ppuWrite_palette (s : State) {a : PpuAddr} (h : 0x3F00#14 ≤ a) (v : Byte) :
    ppuWrite s a v = s.setBus { s.bus with palette := Memory.write s.bus.palette (paletteCell a) v } := by
  have h2 : 0x2000#14 ≤ a := BitVec.le_trans (by decide) h
  rw [ppuWrite, mapperClaimsPpu_eq_false _ h2, if_neg Bool.false_ne_true, if_neg (BitVec.not_lt.mpr h2),
    if_neg (BitVec.not_lt.mpr h), paletteIndex_eq_paletteCell]
  rfl

/-- Settles O36: a palette access is one of the store at the entry of its address, so it reads after write like one. -/
theorem paletteAliases : Obligations.PaletteAliases := by
  have hle : ∀ {a : PpuAddr}, 0x3F00 ≤ a.toNat → 0x3F00#14 ≤ a := fun h => BitVec.le_def.mpr h
  refine ⟨fun s a ha => ppuRead_palette s (hle ha), fun s a b v hwf ha hb => ?_⟩
  rw [ppuWrite_palette s (hle ha), ppuRead_palette _ (hle hb), ppuRead_palette s (hle hb)]
  exact Memory.read_write _ _ _ v hwf

/-! ## The CPU-space decode -/

/-- A comparison of addresses as one of numbers. -/
theorem word_lt_iff {a : Word} {n : Nat} (h : n < 2 ^ 16) : a < BitVec.ofNat 16 n ↔ a.toNat < n := by
  rw [BitVec.lt_def, BitVec.toNat_ofNat, Nat.mod_eq_of_lt h]

/-- The PPU register of an address is the address modulo 8 (20 R101, R104). -/
theorem ppuRegOf_eq (a : Word) : ppuRegOf a = BitVec.ofNat 3 (a.toNat % 8) := by
  apply BitVec.eq_of_toNat_eq
  simp [ppuRegOf]

/-- The mapper claims no CPU read below `0x6000` (21 R151, R160, R177). -/
theorem mapperReadCpu_eq_none (c : Cart) {a : Word} (h : a.toNat < 0x6000) : mapperReadCpu c a = none := by
  rw [mapperReadCpu, if_pos ((word_lt_iff (by decide)).mpr h)]

/-- The mapper claims no CPU write below `0x6000` (21 R151, R161, R177). -/
theorem mapperWriteCpu_eq_none (c : Cart) {a : Word} (h : a.toNat < 0x6000) (v : Byte) : mapperWriteCpu c a v = none := by
  rw [mapperWriteCpu, if_pos ((word_lt_iff (by decide)).mpr h)]

/-- Settles O32: the decode as the model has it, its comparisons, masks and register numbers read as arithmetic. -/
theorem cpuReadDecode : Obligations.CpuReadDecode := by
  refine fun s a => ⟨fun v h => by rw [memRead, h], fun h => ?_⟩
  rw [memRead, h, ramIndex_eq, ppuRegOf_eq]
  simp only [word_lt_iff, Nat.reducePow, Nat.reduceLT]

/-- A write to the OAM data port stores at OamAddr and advances it modulo 256 (61 R428). -/
theorem oamDataWrite_eq (p : Ppu) (v : Byte) : oamDataWrite p v = { p with
    oam := Memory.write p.oam p.oamAddr.toNat v
    oamAddr := BitVec.ofNat 8 ((p.oamAddr.toNat + 1) % 256)
    oamDataReg := ⟨p.oamDataReg.current, v⟩ } := by
  have h : p.oamAddr + 1#8 = BitVec.ofNat 8 ((p.oamAddr.toNat + 1) % 256) := by bv_omega
  rw [oamDataWrite, h, Clocked.write]

/-- The DMA trigger: the base of page `v` is `v * 256` (20 R117). -/
theorem dmaTrigger_eq (b : Bus) (v : Byte) : dmaTrigger b v = { b with
    dmaState := .waiting, dmaBase := BitVec.ofNat 16 (v.toNat * 256), dmaCount := 0, dmaReadPhase := true } := by
  have h : v ++ 0#8 = BitVec.ofNat 16 (v.toNat * 256) := by
    have := v.isLt
    apply BitVec.eq_of_toNat_eq
    rw [BitVec.toNat_append, BitVec.toNat_ofNat, BitVec.toNat_ofNat, Nat.zero_mod, Nat.or_zero, Nat.shiftLeft_eq]
    omega
  rw [dmaTrigger, h]

/-- A write to a PPU register, the registers 1 to 4 written out (61 R428). -/
theorem ppuCpuWrite_ofNat (s : State) {n : Nat} (hn : n < 8) (v : Byte) : ppuCpuWrite s (BitVec.ofNat 3 n) v =
    if n = 1 then s.setPpu { s.ppu with mask := ⟨s.ppu.mask.current, v⟩ }
    else if n = 2 then s
    else if n = 3 then s.setPpu { s.ppu with oamAddr := v, oamAddrReg := ⟨s.ppu.oamAddrReg.current, v⟩ }
    else if n = 4 then s.setPpu { s.ppu with
      oam := Memory.write s.ppu.oam s.ppu.oamAddr.toNat v
      oamAddr := BitVec.ofNat 8 ((s.ppu.oamAddr.toNat + 1) % 256)
      oamDataReg := ⟨s.ppu.oamDataReg.current, v⟩ }
    else ppuCpuWrite s (BitVec.ofNat 3 n) v := by
  match n, hn with
  | 4, _ => exact congrArg s.setPpu (oamDataWrite_eq s.ppu v)
  | 0, _ | 1, _ | 2, _ | 3, _ | 5, _ | 6, _ | 7, _ => rfl

/-- The write decode of what the mapper does not claim (20 R102, R106-R108, R117). -/
theorem memWrite_of_unclaimed {s : State} {a : Word} {v : Byte} (h : mapperWriteCpu s.cart a v = none) : memWrite s a v =
    if a.toNat < 0x2000 then s.setBus { s.bus with ram := Memory.write s.bus.ram (a.toNat % 0x800) v }
    else if a.toNat < 0x4000 then ppuCpuWrite s (BitVec.ofNat 3 (a.toNat % 8)) v
    else if a.toNat = 0x4014 then s.setBus (dmaTrigger s.bus v)
    else if a.toNat < 0x4018 then ioWrite s a v
    else s := by
  have hport : a = 0x4014#16 ↔ a.toNat = 0x4014 := BitVec.toNat_inj.symm
  rw [memWrite, h, ramIndex_eq, ppuRegOf_eq]
  simp only [word_lt_iff, Nat.reducePow, Nat.reduceLT, hport]
  by_cases hdma : a.toNat = 0x4014
  · simp only [hdma, Nat.reduceLT, if_true, if_false]
    rfl
  · simp only [if_neg hdma]
    rfl

/-- A CPU write in `0x2000-0x3FFF` is one to the PPU register of its number (20 R102, R104). -/
theorem memWrite_ppuReg (s : State) {a : Word} (h2 : 0x2000 ≤ a.toNat) (h4 : a.toNat < 0x4000) (v : Byte) :
    memWrite s a v = ppuCpuWrite s (BitVec.ofNat 3 (a.toNat % 8)) v := by
  rw [memWrite_of_unclaimed (mapperWriteCpu_eq_none _ (by omega) v), if_neg (Nat.not_lt.mpr h2), if_pos h4]

/-- Settles O33: the decode as the model has it, read as arithmetic; the OAM clause is read after write in OAM. -/
theorem cpuWriteDecode : Obligations.CpuWriteDecode := by
  refine fun s a v => ⟨fun c h => by rw [memWrite, h], fun h => ?_, fun hwf h2 h4 h8 i _ => ?_⟩
  · rw [memWrite_of_unclaimed h, dmaTrigger_eq]
    split
    · rfl
    · split
      · exact ppuCpuWrite_ofNat s (Nat.mod_lt _ (by decide)) v
      · rfl
  · have hw : memWrite s a v = s.setPpu (oamDataWrite s.ppu v) := by
      rw [memWrite_ppuReg s h2 h4, h8]
      rfl
    rw [hw]
    simp only [eq_comm (a := i)]
    exact Memory.read_write _ _ _ v hwf

/-! ## The reads that change the state -/

/-- A read of a PPU register other than Status and the data port changes nothing (61 R430). -/
theorem ppuCpuRead_snd (s : State) {n : Nat} (hn : n < 8) (h2 : n ≠ 2) (h7 : n ≠ 7) :
    (ppuCpuRead s (BitVec.ofNat 3 n)).2 = s := by
  match n, hn with
  | 2, _ => exact absurd rfl h2
  | 7, _ => exact absurd rfl h7
  | 0, _ | 1, _ | 3, _ | 4, _ | 5, _ | 6, _ => rfl

/-- A CPU read in `0x2000-0x3FFF` is one of the PPU register of its number (20 R101, R104). -/
theorem memRead_ppuReg (s : State) {a : Word} (h2 : 0x2000 ≤ a.toNat) (h4 : a.toNat < 0x4000) :
    memRead s a = ppuCpuRead s (BitVec.ofNat 3 (a.toNat % 8)) := by
  rw [(cpuReadDecode s a).2 (mapperReadCpu_eq_none _ (by omega)), if_neg (Nat.not_lt.mpr h2), if_pos h4]

/-- A CPU read of a mirror of the PPU's data port (20 R104, 61 R430). -/
theorem memRead_dataPort (s : State) {a : Word} (h2 : 0x2000 ≤ a.toNat) (h4 : a.toNat < 0x4000) (h : a.toNat % 8 = 7) :
    memRead s a = dataRead s := by
  rw [memRead_ppuReg s h2 h4, h]
  rfl

/-- A CPU read of anything but the PPU's Status and data port changes nothing (20 R126). -/
theorem memRead_snd_of_pure (s : State) {a : Word}
    (h : ¬ (0x2000 ≤ a.toNat ∧ a.toNat < 0x4000 ∧ (a.toNat % 8 = 2 ∨ a.toNat % 8 = 7))) : (memRead s a).2 = s := by
  obtain ⟨hclaimed, hfree⟩ := cpuReadDecode s a
  cases hm : mapperReadCpu s.cart a with
  | some v => rw [hclaimed v hm]
  | none =>
    rw [hfree hm]
    split
    · rfl
    · split
      · exact ppuCpuRead_snd s (Nat.mod_lt _ (by decide)) (by omega) (by omega)
      · split <;> rfl

/-- The PPU-space address whose byte a read of `0x2007` puts in the read buffer: V's own, or from the palette the
nametable beneath (61 R433). -/
def bufferAddr (p : Ppu) : PpuAddr := if 0x3F00#14 ≤ p.vAddr then p.vAddr - 0x1000#14 else p.vAddr

/-- What a read of `0x2007` leaves behind: one PPU read into the buffer, and V advanced (61 R433). -/
theorem dataRead_snd (s : State) : (dataRead s).2 = (ppuRead s (bufferAddr s.ppu)).2.setPpu
    { s.ppu with readBuffer := (ppuRead s (bufferAddr s.ppu)).1 }.advanceV := by
  rw [dataRead, bufferAddr]
  by_cases h : 0x3F00#14 ≤ s.ppu.vAddr
  · simp only [if_pos h, ppuRead_palette s h, ppuRead_ppu]
  · simp only [if_neg h, ppuRead_ppu]

/-- The PPU-space address V names, as a number. -/
theorem vAddr_toNat (p : Ppu) : p.vAddr.toNat = p.v.toNat % 0x4000 := BitVec.toNat_setWidth ..

/-- The buffer is never filled from the palette. -/
theorem bufferAddr_lt_palette (p : Ppu) : bufferAddr p < 0x3F00#14 := by
  rw [bufferAddr]
  split
  · bv_omega
  · exact BitVec.not_le.mp ‹_›

/-- The buffer is filled from the pattern region exactly when V lies there. -/
theorem bufferAddr_lt_nametables_iff (p : Ppu) : bufferAddr p < 0x2000#14 ↔ p.v.toNat % 0x4000 < 0x2000 := by
  rw [← vAddr_toNat, bufferAddr]
  split <;> bv_omega

/-- Settles O34: the decode leaves only Status and the data port; the data port leaves the effect of one PPU read, of an
address in the pattern region when V lies there and else in the nametables, and only the latter refuses under FOUR. -/
theorem readSideEffects : Obligations.ReadSideEffects := by
  refine fun s a => ⟨fun h => ?_, fun ⟨h2, h4, h⟩ => ?_, fun ⟨h2, h4, h⟩ hm => ?_, fun ⟨h2, h4, h⟩ hm => ?_,
    fun hm q => ppuRead_snd hm q⟩
  · have hs := memRead_snd_of_pure s h
    exact ⟨hs, by rw [hs]⟩
  · rw [memRead_ppuReg s h2 h4, h]
    rfl
  · rw [memRead_dataPort s h2 h4 h, dataRead_snd, ppuRead_snd hm]
    exact ⟨_, _, rfl⟩
  · rw [memRead_dataPort s h2 h4 h, dataRead_snd]
    have hpattern := bufferAddr_lt_nametables_iff s.ppu
    refine ⟨s.ppu.v + vramInc s.ppu, (ppuRead s (bufferAddr s.ppu)).1, ?_⟩
    by_cases hv : s.ppu.v.toNat % 0x4000 < 0x2000
    · rw [if_pos hv, ppuRead_pattern_snd s (hpattern.mpr hv)]
      rfl
    · rw [if_neg hv, ppuRead_nametable_four hm (BitVec.not_lt.mp (hv ∘ hpattern.mp))
        (bufferAddr_lt_palette s.ppu)]
      rfl

end Sys2Proof.Machine
end

section
/-! PROOFS. The mappers (spec/21_mappers.md): the PRG and CHR maps, the mirroring in force, and the stores read after
write. -/

namespace Sys2Proof.Machine

/-! ## PRG RAM and PRG ROM -/

/-- The PRG RAM index counts from `0x6000` (21 R160, R177). -/
theorem prgRamIndex_eq {a : Word} (h : 0x6000 ≤ a.toNat) : prgRamIndex a = a.toNat - 0x6000 :=
  BitVec.toNat_sub_of_le (BitVec.le_def.mpr h)

/-- The offset of an address in the PRG ROM window (21 R160, R172). -/
theorem prgWindow_toNat {a : Word} (h : 0x8000 ≤ a.toNat) : (a - 0x8000#16).toNat = a.toNat - 0x8000 :=
  BitVec.toNat_sub_of_le (BitVec.le_def.mpr h)

/-- A CPU read in `0x6000-0x7FFF` is one of PRG RAM under both mappers (21 R160, R177). -/
theorem memRead_prgRam (s : State) {a : Word} (h6 : 0x6000 ≤ a.toNat) (h8 : a.toNat < 0x8000) :
    memRead s a = (Memory.read s.cart.prgRam (a.toNat - 0x6000), s) := by
  simp only [memRead, mapperReadCpu, word_lt_iff, Nat.reducePow, Nat.reduceLT, if_neg (Nat.not_lt.mpr h6), if_pos h8,
    prgRamIndex_eq h6]

/-- A CPU write in `0x6000-0x7FFF` is one to PRG RAM under both mappers (21 R161, R177). -/
theorem memWrite_prgRam (s : State) {a : Word} (h6 : 0x6000 ≤ a.toNat) (h8 : a.toNat < 0x8000) (v : Byte) :
    memWrite s a v = { s with cart := { s.cart with prgRam := Memory.write s.cart.prgRam (a.toNat - 0x6000) v } } := by
  simp only [memWrite, mapperWriteCpu, word_lt_iff, Nat.reducePow, Nat.reduceLT, if_neg (Nat.not_lt.mpr h6), if_pos h8,
    prgRamIndex_eq h6]

/-- A CPU read from `0x8000` up is one of the ROM image at the mapper's offset (21 R160, R172). -/
theorem memRead_prgRom (s : State) {a : Word} (h8 : 0x8000 ≤ a.toNat) :
    memRead s a = (Memory.read s.cart.rom (prgOffset s.cart a), s) := by
  have h6 : ¬ a.toNat < 0x6000 := by omega
  simp only [memRead, mapperReadCpu, word_lt_iff, Nat.reducePow, Nat.reduceLT, if_neg h6, if_neg (Nat.not_lt.mpr h8), prgByte]

/-- NROM ignores a CPU write from `0x8000` up (21 R161). -/
theorem memWrite_prgRom_nrom {s : State} (hm : s.cart.mapper = .nrom) {a : Word} (h8 : 0x8000 ≤ a.toNat) (v : Byte) :
    memWrite s a v = s := by
  have h6 : ¬ a.toNat < 0x6000 := by omega
  simp only [memWrite, mapperWriteCpu, word_lt_iff, Nat.reducePow, Nat.reduceLT, if_neg h6, if_neg (Nat.not_lt.mpr h8), hm]

/-- NROM's masks are remainders: one bank is seen twice, more than one as they lie (21 R160). -/
theorem nromPrgOffset_eq (c : Cart) {a : Word} (h8 : 0x8000 ≤ a.toNat) :
    nromPrgOffset c a = if c.prgBanks = 1 then (a.toNat - 0x8000) % 0x4000 else a.toNat - 0x8000 := by
  have hmod : (a.toNat - 0x8000) % 0x8000 = a.toNat - 0x8000 := by omega
  rw [nromPrgOffset, BitVec.toNat_and, BitVec.toNat_and, prgWindow_toNat h8]
  exact congrArg₂ (ite _) (Nat.and_two_pow_sub_one_eq_mod _ 14) ((Nat.and_two_pow_sub_one_eq_mod _ 15).trans hmod)

/-- MMC1's PRG mode as a number (21 R171). -/
theorem mmc1PrgMode_toNat (c : Cart) : (mmc1PrgMode c).toNat = c.control.toNat / 4 % 4 := by
  rw [mmc1PrgMode, BitVec.extractLsb'_toNat, Nat.shiftRight_eq_div_pow]

/-- The PRG bank MMC1 selects in the 16 KiB modes (21 R172). -/
theorem mmc1PrgBank_toNat (r : BitVec 5) : (r &&& 0x0F#5).toNat = r.toNat % 16 := by
  rw [BitVec.toNat_and]
  exact Nat.and_two_pow_sub_one_eq_mod _ 4

/-- The even PRG bank MMC1 selects in the 32 KiB modes (21 R172). -/
theorem mmc1PrgPair_toNat (r : BitVec 5) : (r &&& 0x0E#5).toNat = r.toNat % 16 / 2 * 2 := by
  revert r
  decide

/-- The value of a two-bit field that the three other modes leave. -/
theorem bitVec2_eq_three {x : BitVec 2} (h0 : x ≠ 0#2) (h1 : x ≠ 1#2) (h2 : x ≠ 2#2) : x = 3#2 := by
  revert x
  decide

/-- The PRG map of MMC1 as a bank and the offset in it (21 R172). -/
theorem mmc1PrgRaw_eq (c : Cart) {a : Word} {h bank mode : Nat} (h8 : 0x8000 ≤ a.toNat) (hh : h = a.toNat - 0x8000)
    (hbank : bank = c.prgBank.toNat % 16) (hmode : mode = c.control.toNat / 4 % 4) :
    mmc1PrgRaw c a = 0x4000 * (
      if mode ≤ 1 then bank / 2 * 2 + h / 0x4000
      else if mode = 2 then (if h < 0x4000 then 0 else bank)
      else (if h < 0x4000 then bank else c.prgBanks - 1)) + h % 0x4000 := by
  have ha := a.isLt
  have hlow : a < 0xC000#16 ↔ h < 0x4000 := by rw [word_lt_iff (by decide)]; omega
  rw [← mmc1PrgMode_toNat] at hmode
  rw [mmc1PrgRaw, prgWindow_toNat h8, ← hh, mmc1PrgPair_toNat, mmc1PrgBank_toNat, ← hbank, Config.prgBankSize]
  simp only [hlow]
  split
  case h_1 hm | h_2 hm | h_3 hm =>
    rw [hm, BitVec.toNat_ofNat] at hmode
    split_ifs <;> omega
  case h_4 h0 h1 h2 =>
    rw [bitVec2_eq_three h0 h1 h2, BitVec.toNat_ofNat] at hmode
    split_ifs <;> omega

/-- Settles O37: the CPU-space decode, then the offset of each mapper as a bank and the offset in it. -/
theorem prgMapping : Obligations.PrgMapping := by
  intro s a h hh
  refine ⟨fun h6 h8 => ⟨congrArg Prod.fst (memRead_prgRam s h6 h8), memWrite_prgRam s h6 h8⟩,
    fun h8 hm => ⟨?_, memWrite_prgRom_nrom hm h8⟩, fun h8 hm bank mode hbank hmode => ?_⟩
  · rw [peek, memRead_prgRom s h8, prgOffset, hm, hh, ← nromPrgOffset_eq s.cart h8]
  · rw [peek, memRead_prgRom s h8, prgOffset, hm, ← mmc1PrgRaw_eq s.cart h8 hh hbank hmode]
    rfl

/-! ## The pattern region -/

/-- The mapper claims the pattern region exactly when there are CHR banks (21 R162, R163, R174, R175). -/
theorem mapperClaimsPpu_pattern (c : Cart) {q : PpuAddr} (h : q < 0x2000#14) :
    mapperClaimsPpu c q = decide (0 < c.chrBanks) := by
  rw [mapperClaimsPpu, decide_eq_true h, Bool.and_true]

/-- Without CHR banks a PPU read of the pattern region is one of the pattern store (20 R109, R110). -/
theorem ppuRead_patternStore {s : State} (hc : s.cart.chrBanks = 0) {q : PpuAddr} (h : q < 0x2000#14) :
    ppuRead s q = (Memory.read s.bus.pattern q.toNat, s) := by
  simp only [ppuRead, mapperReadPpu, mapperClaimsPpu_pattern _ h, hc, Nat.lt_irrefl, decide_false, Bool.false_eq_true,
    if_false, if_pos h]

/-- Without CHR banks a PPU write to the pattern region is one to the pattern store (20 R109, R110). -/
theorem ppuWrite_patternStore {s : State} (hc : s.cart.chrBanks = 0) {q : PpuAddr} (h : q < 0x2000#14) (v : Byte) :
    ppuWrite s q v = s.setBus { s.bus with pattern := Memory.write s.bus.pattern q.toNat v } := by
  simp only [ppuWrite, mapperClaimsPpu_pattern _ h, hc, Nat.lt_irrefl, decide_false, Bool.false_eq_true, if_false, if_pos h]
  rfl

/-- With CHR banks a PPU write to the pattern region changes nothing (21 R163, R174). -/
theorem ppuWrite_chr {s : State} (hc : 0 < s.cart.chrBanks) {q : PpuAddr} (h : q < 0x2000#14) (v : Byte) :
    ppuWrite s q v = s := by
  rw [ppuWrite, mapperClaimsPpu_pattern _ h, decide_eq_true hc, if_pos rfl]

/-- With CHR banks NROM reads the CHR byte at the address (21 R162). -/
theorem ppuRead_chr_nrom {s : State} (hm : s.cart.mapper = .nrom) (hc : 0 < s.cart.chrBanks) {q : PpuAddr}
    (h : q < 0x2000#14) : ppuRead s q = (chrByte s.cart q.toNat, s) := by
  simp only [ppuRead, mapperReadPpu, mapperClaimsPpu_pattern _ h, decide_eq_true hc, if_true, hm]

/-- With CHR banks MMC1 reads the CHR byte at its offset (21 R174). -/
theorem ppuRead_chr_mmc1 {s : State} (hm : s.cart.mapper = .mmc1) (hc : 0 < s.cart.chrBanks) {q : PpuAddr}
    (h : q < 0x2000#14) : ppuRead s q = (chrByte s.cart (mmc1ChrOffset s.cart q), s) := by
  simp only [ppuRead, mapperReadPpu, mapperClaimsPpu_pattern _ h, decide_eq_true hc, if_true, hm]

/-- The even CHR bank MMC1 selects in the 8 KiB mode (21 R174). -/
theorem mmc1ChrPair_toNat (r : BitVec 5) : (r &&& 0x1E#5).toNat = r.toNat / 2 * 2 := by
  revert r
  decide

/-- MMC1's CHR mode as arithmetic on Control (21 R171). -/
theorem mmc1ChrMode_eq (c : Cart) : mmc1ChrMode c = !decide (c.control.toNat / 16 = 0) := by
  rw [mmc1ChrMode]
  generalize c.control = r
  revert r
  decide

/-- The CHR map of MMC1 (21 R173, R174). -/
theorem mmc1ChrOffset_eq (c : Cart) (q : PpuAddr) : mmc1ChrOffset c q = (
    if c.control.toNat / 16 = 0 then c.chrBank0.toNat / 2 * 2 * 4096 + q.toNat
    else if q.toNat < 0x1000 then c.chrBank0.toNat * 4096 + q.toNat
    else c.chrBank1.toNat * 4096 + (q.toNat - 0x1000)) % (c.chrBanks * 8192) := by
  have hlow : q < 0x1000#14 ↔ q.toNat < 0x1000 := BitVec.lt_def
  simp only [mmc1ChrOffset, mmc1ChrMode_eq, mmc1ChrPair_toNat, hlow, chrSize, Config.chrBankSize]
  by_cases h : c.control.toNat / 16 = 0
  · simp only [h, decide_true, Bool.not_true, Bool.false_eq_true, if_false, if_true]
  · simp only [h, decide_false, Bool.not_false, if_true, if_false]

/-! ## The mirroring in force -/

/-- Under NROM the mirroring is the header's (21 R164). -/
theorem mirrorMode_nrom {c : Cart} (hm : c.mapper = .nrom) : mirrorMode c =
    match c.mirror with | .horizontal => .horizontal | .vertical => .vertical | .four => .four := by
  cases hmirror : c.mirror <;> simp only [mirrorMode, hm, hmirror]

/-- Under MMC1 the mirroring is what the two low bits of Control name (21 R171). -/
theorem mirrorMode_mmc1_eq {c : Cart} (hm : c.mapper = .mmc1) : mirrorMode c =
    if c.control.toNat % 4 = 0 then .single 0 else if c.control.toNat % 4 = 1 then .single 1
    else if c.control.toNat % 4 = 2 then .vertical else .horizontal := by
  simp only [mirrorMode, hm]
  generalize c.control = r
  revert r
  decide

/-- Settles O59: without CHR banks the Bus's pattern store answers, with them the mapper does. -/
theorem chrMappingAndMirroring : Obligations.ChrMappingAndMirroring := by
  refine ⟨fun s q v hq => ?_, fun c => ⟨mirrorMode_nrom, mirrorMode_mmc1_eq⟩⟩
  have hq : q < 0x2000#14 := BitVec.lt_def.mpr hq
  refine ⟨fun hc => ⟨ppuRead_patternStore hc hq, ppuWrite_patternStore hc hq v⟩,
    fun hc => ⟨ppuWrite_chr hc hq v, fun hm => ppuRead_chr_nrom hm hc hq, fun hm => ?_⟩⟩
  rw [ppuRead_chr_mmc1 hm hc hq, mmc1ChrOffset_eq]
  rfl

/-! ## The nametables -/

/-- The index in VRAM of a nametable byte given as physical page and offset (20 R111). -/
def vramCellIndex (cell : Nat × Nat) : Nat := cell.1 * 0x400 + cell.2

/-- The mirror rule of the model is the spec's table of pages (20 R113). -/
theorem nametablePage_eq_pageOf {m : MirrorMode} (hm : m ≠ .four) {n : Nat} (hn : n < 4) :
    nametablePage m n = some (pageOf m n) := by
  cases m with
  | four => exact absurd rfl hm
  | single p => rfl
  | horizontal | vertical => revert n; decide

/-- A nametable address reaches VRAM at the byte it names (20 R111-R113). -/
theorem vramIndex_eq {c : Cart} (hm : mirrorMode c ≠ .four) {a : PpuAddr} (h : 0x2000#14 ≤ a) :
    vramIndex c a = some (vramCellIndex (nametableCell (mirrorMode c) a)) := by
  have hn : (a.toNat - 0x2000) / 0x400 % 4 = a.toNat / 0x400 % 4 := by bv_omega
  rw [vramIndex, ← hn, nametablePage_eq_pageOf hm (Nat.mod_lt _ (by decide))]
  rfl

/-- Two nametable addresses reach the same index of VRAM exactly when they name the same byte. -/
theorem vramCellIndex_nametableCell_inj (m : MirrorMode) (a b : PpuAddr) :
    vramCellIndex (nametableCell m a) = vramCellIndex (nametableCell m b) ↔ nametableCell m a = nametableCell m b := by
  simp only [vramCellIndex, nametableCell, Prod.mk.injEq]
  omega

/-- A nametable read where the mirroring is modelled (20 R111). -/
theorem ppuRead_nametable {s : State} (hm : mirrorMode s.cart ≠ .four) {a : PpuAddr} (h2 : 0x2000#14 ≤ a)
    (h3 : a < 0x3F00#14) :
    ppuRead s a = (Memory.read s.bus.vram (vramCellIndex (nametableCell (mirrorMode s.cart) a)), s) := by
  rw [ppuRead, mapperReadPpu_eq_none _ h2]
  simp only [if_neg (BitVec.not_lt.mpr h2), if_pos h3, vramIndex_eq hm h2]

/-- A nametable write where the mirroring is modelled (20 R111). -/
theorem ppuWrite_nametable {s : State} (hm : mirrorMode s.cart ≠ .four) {a : PpuAddr} (h2 : 0x2000#14 ≤ a)
    (h3 : a < 0x3F00#14) (v : Byte) : ppuWrite s a v = s.setBus { s.bus with
      vram := Memory.write s.bus.vram (vramCellIndex (nametableCell (mirrorMode s.cart) a)) v } := by
  rw [ppuWrite, mapperClaimsPpu_eq_false _ h2]
  simp only [Bool.false_eq_true, if_false, if_neg (BitVec.not_lt.mpr h2), if_pos h3, vramIndex_eq hm h2]
  rfl

/-- A nametable write under FOUR refuses (20 R114). -/
theorem ppuWrite_nametable_four {s : State} (hm : mirrorMode s.cart = .four) {a : PpuAddr} (h2 : 0x2000#14 ≤ a)
    (h3 : a < 0x3F00#14) (v : Byte) : ppuWrite s a v = s.refuse .fourScreenUnmodelled := by
  have hv : vramIndex s.cart a = none := by rw [vramIndex, hm]; rfl
  rw [ppuWrite, mapperClaimsPpu_eq_false _ h2]
  simp only [Bool.false_eq_true, if_false, if_neg (BitVec.not_lt.mpr h2), if_pos h3, hv]

/-! ## Read after write -/

/-- RAM reads back what was written at every mirror of the address and nowhere else (20 R103). -/
theorem peek_memWrite_ram {s : State} (hwf : Memory.wf s.bus.ram) {a b : Word} (ha : a < 0x2000#16) (hb : b < 0x2000#16)
    (v : Byte) : peek (memWrite s a v) b = if a.toNat % 0x800 = b.toNat % 0x800 then v else peek s b := by
  rw [memWrite_ram s ha, peek, peek, memRead_ram _ hb, memRead_ram s hb, ← ramIndex_eq, ← ramIndex_eq]
  exact Memory.read_write _ _ _ v hwf

/-- PRG RAM reads back what was written at its address and nowhere else (21 R160, R161, R177). -/
theorem peek_memWrite_prgRam {s : State} (hwf : Memory.wf s.cart.prgRam) {a b : Word} (ha6 : 0x6000 ≤ a.toNat)
    (ha8 : a.toNat < 0x8000) (hb6 : 0x6000 ≤ b.toNat) (hb8 : b.toNat < 0x8000) (v : Byte) :
    peek (memWrite s a v) b = if a = b then v else peek s b := by
  have hindex : a = b ↔ a.toNat - 0x6000 = b.toNat - 0x6000 := by rw [← BitVec.toNat_inj]; omega
  rw [memWrite_prgRam s ha6 ha8, peek, peek, memRead_prgRam _ hb6 hb8, memRead_prgRam s hb6 hb8, if_congr hindex rfl rfl]
  exact Memory.read_write _ _ _ v hwf

/-- A nametable reads back what was written at every address of the same page and offset and nowhere else (20 R110-R113). -/
theorem ppuRead_ppuWrite_nametable {s : State} (hwf : Memory.wf s.bus.vram) (hm : mirrorMode s.cart ≠ .four)
    {a b : PpuAddr} (ha2 : 0x2000#14 ≤ a) (ha3 : a < 0x3F00#14) (hb2 : 0x2000#14 ≤ b) (hb3 : b < 0x3F00#14) (v : Byte) :
    (ppuRead (ppuWrite s a v) b).1 =
      if nametableCell (mirrorMode s.cart) a = nametableCell (mirrorMode s.cart) b then v else (ppuRead s b).1 := by
  have hmw : mirrorMode (ppuWrite s a v).cart ≠ .four := by rwa [ppuWrite_cart]
  rw [ppuRead_nametable hmw hb2 hb3, ppuRead_nametable hm hb2 hb3, ppuWrite_nametable hm ha2 ha3,
    ← if_congr (vramCellIndex_nametableCell_inj _ a b) rfl rfl]
  exact Memory.read_write _ _ _ v hwf

/-- The pattern store reads back what was written at its address and nowhere else (20 R110). -/
theorem ppuRead_ppuWrite_pattern {s : State} (hwf : Memory.wf s.bus.pattern) (hc : s.cart.chrBanks = 0) {a b : PpuAddr}
    (ha : a < 0x2000#14) (hb : b < 0x2000#14) (v : Byte) :
    (ppuRead (ppuWrite s a v) b).1 = if a = b then v else (ppuRead s b).1 := by
  have hcw : (ppuWrite s a v).cart.chrBanks = 0 := by rwa [ppuWrite_cart]
  rw [ppuRead_patternStore hcw hb, ppuRead_patternStore hc hb, ppuWrite_patternStore hc ha,
    ← if_congr BitVec.toNat_inj rfl rfl]
  exact Memory.read_write _ _ _ v hwf

/-- Settles O35: every access is one of a store at the index of its address, so the stores read after write; under FOUR
a nametable address has no index. -/
theorem storesReadBack : Obligations.StoresReadBack := by
  have hlt : ∀ {a : PpuAddr}, a.toNat < 0x3F00 → a < 0x3F00#14 := fun h => BitVec.lt_def.mpr h
  have hle : ∀ {a : PpuAddr}, 0x2000 ≤ a.toNat → 0x2000#14 ≤ a := fun h => BitVec.le_def.mpr h
  refine ⟨fun s a b v hwf ha hb => peek_memWrite_ram hwf (BitVec.lt_def.mpr ha) (BitVec.lt_def.mpr hb) v,
    fun s a b v hwf ha6 ha8 hb6 hb8 => peek_memWrite_prgRam hwf ha6 ha8 hb6 hb8 v,
    fun s a b v hwf hm ha2 ha3 hb2 hb3 => ppuRead_ppuWrite_nametable hwf hm (hle ha2) (hlt ha3) (hle hb2) (hlt hb3) v,
    fun s a b v hwf hc ha hb => ppuRead_ppuWrite_pattern hwf hc (BitVec.lt_def.mpr ha) (BitVec.lt_def.mpr hb) v,
    fun s a v hm ha2 ha3 => ⟨?_, ppuWrite_nametable_four hm (hle ha2) (hlt ha3) v⟩⟩
  rw [ppuRead_nametable_four hm (hle ha2) (hlt ha3)]
  rfl

end Sys2Proof.Machine
end

section
/-! PROOFS. Loads, stores and transfers (spec/41_load_store_transfer.md): an encoding whose mode and cycles are those of
the opcode map answers `Form.afterRead`, `Form.afterStore` or `Form.afterRegisters`, after the shape it runs in. -/

namespace Sys2Proof.Machine

/-! ## An encoding and the opcode map -/

/-- The encoding's mode, cycles and page-cross flag are those of the model's opcode map (30 R196). -/
def Form.InMap (f : Form) : Prop := opInfo f.op = ⟨f.mode, f.cycles, f.pen⟩

/-- The encoding is in the opcode map and its instruction runs in the shape `run`, on its opcode and operand. -/
def Form.RunsAs (f : Form) (run : Byte → Word → State → Result) : Prop :=
  f.InMap ∧ ∀ s, exec f.instr s = run f.op f.operand s

/-- What there is to see for one encoding: its entry of the map, and its arm of `exec`. -/
theorem Form.RunsAs.intro {i : Instr} {op : Byte} {mode : Mode} {operand : Word} {cycles : Byte} {pen : Bool}
    {run : Byte → Word → State → Result} (hmap : opInfo op = ⟨mode, cycles, pen⟩)
    (hexec : ∀ s, exec i s = run op operand s) : Form.RunsAs ⟨i, op, mode, operand, cycles, pen⟩ run :=
  ⟨hmap, hexec⟩

/-- The fetch bookkeeping is that of the encoding (40 R226). -/
theorem Form.InMap.beginInstr_eq {f : Form} (hf : f.InMap) (s : State) : beginInstr f.op s = f.begun s := by
  rw [beginInstr, hf]
  rfl

/-- Beginning the instruction runs the encoding's mode and records EffAddr (40 R226). -/
theorem Form.InMap.beginAndResolve_eq {f : Form} (hf : f.InMap) (s : State) : beginAndResolve f.op f.operand s =
    ⟨(f.target s).ea, (f.target s).cross, (f.target s).st.setEffAddr (f.target s).ea⟩ := by
  rw [beginAndResolve, hf.beginInstr_eq, hf]
  rfl

/-- The cycles are the encoding's base and page-cross penalty (40 R228, R229). -/
theorem Form.InMap.cyclesOf_eq {f : Form} (hf : f.InMap) (s : State) :
    cyclesOf f.op (f.target s).cross = f.cost s := by
  rw [cyclesOf, hf, Form.cost]
  cases f.pen <;> cases (f.target s).cross <;> simp

/-- The addressing mode changes no register (40 R234-R244). -/
theorem Form.target_cpu (f : Form) (s : State) : (f.target s).st.cpu = (f.begun s).cpu :=
  (resolve_effect f.mode f.operand (f.begun s)).cpu

/-- Reading the operand does not look at EffAddr (40 R245). -/
theorem readOperand_setEffAddr (m : Mode) (operand ea : Word) (s : State) (v : Word) :
    readOperand m operand ea (s.setEffAddr v)
      = ((readOperand m operand ea s).1, (readOperand m operand ea s).2.setEffAddr v) := by
  have hread : memRead (s.setEffAddr v) ea = ((memRead s ea).1, (memRead s ea).2.setEffAddr v) := by
    rw [State.setEffAddr, memRead_setCpu, State.setEffAddr, memRead_cpu]
  cases m with
  | imp | acc | imm => rfl
  | zp0 | zpx | zpy | abs | abx | aby | ind | izx | izy | rel => exact hread

/-! ## The shapes in closed form -/

/-- The register change `g` neither looks at EffAddr nor changes it. -/
def KeepsEffAddr (g : Cpu → Cpu) : Prop :=
  ∀ (c : Cpu) (v : Word), g { c with effAddr := v } = { g c with effAddr := v }

/-- A reading instruction answers the state after its read, the registers changed by its handler (40 R245). -/
theorem Form.RunsAs.exec_read {f : Form} {h : Byte → State → State} {g : Byte → Cpu → Cpu}
    (hf : f.RunsAs (runRead · · h)) (hh : ∀ m t, h m t = t.setCpu (g m t.cpu)) (hg : ∀ m, KeepsEffAddr (g m))
    {s : State} (hs : s.Ready) : exec f.instr s = .next (f.afterRead g s) := by
  obtain ⟨hmap, hexec⟩ := hf
  have heffect : ∀ m t, StackEffect t (h m t) := fun m t => hh m t ▸ setCpu_stackEffect t _
  rw [(hexec s).trans (runRead_next hs f.op f.operand heffect).1, hmap.beginAndResolve_eq, hmap.cyclesOf_eq, hmap,
    readOperand_setEffAddr, hh]
  exact congrArg (fun c : Cpu => Host.Outcome.next ((f.operandRead s).2.setCpu { c with cyclesLeft := f.cost s }))
    (hg (f.operandRead s).1 (f.operandRead s).2.cpu (f.target s).ea)

/-- A store answers the state after its one write, the registers as the fetch left them (40 R245, R246). -/
theorem Form.RunsAs.exec_store {f : Form} {src : Cpu → Byte} (hf : f.RunsAs (runStore · · src)) {s : State}
    (hsrc : src ((f.begun s).setEffAddr (f.target s).ea).cpu = src s.cpu) (hs : s.Ready) :
    exec f.instr s = .next (f.afterStore src s) := by
  obtain ⟨hmap, hexec⟩ := hf
  have hcpu : ((f.target s).st.setEffAddr (f.target s).ea).cpu = ((f.begun s).setEffAddr (f.target s).ea).cpu :=
    congrArg (fun c : Cpu => { c with effAddr := (f.target s).ea }) (f.target_cpu s)
  rw [(hexec s).trans (runStore_next hs f.op f.operand src).1, hmap.beginAndResolve_eq, hmap.cyclesOf_eq, hcpu, hsrc,
    State.setEffAddr, memWrite_setCpu, f.target_cpu]
  rfl

/-- An implied instruction answers the state after its fetch, the registers changed by its handler (40 R234). -/
theorem Form.RunsAs.exec_implied {i : Instr} {op cycles : Byte} {pen : Bool} {h : State → State} {g : Cpu → Cpu}
    (hf : Form.RunsAs ⟨i, op, .imp, 0#16, cycles, pen⟩ fun o _ => runImplied o h)
    (hh : ∀ t, h t = t.setCpu (g t.cpu)) (hg : KeepsEffAddr g) {s : State} (hs : s.Ready) :
    exec i s = .next (Form.afterRegisters ⟨i, op, .imp, 0#16, cycles, pen⟩ g s) := by
  obtain ⟨hmap, hexec⟩ := hf
  have heffect : ∀ t, StackEffect t (h t) := fun t => hh t ▸ setCpu_stackEffect t _
  have hresolve : beginAndResolve op 0#16 s = _ := hmap.beginAndResolve_eq s
  have hcost : cyclesOf op false = _ := hmap.cyclesOf_eq s
  rw [(hexec s).trans (runImplied_next hs op heffect).1, hresolve, hcost, hh]
  exact congrArg (fun c : Cpu => Host.Outcome.next ((Form.begun ⟨i, op, .imp, 0#16, cycles, pen⟩ s).setCpu
    { c with cyclesLeft := Form.cost ⟨i, op, .imp, 0#16, cycles, pen⟩ s })) (hg _ _)

/-! ## The encodings of 41 -/

theorem ldaForms_runsAs (b : Byte) (w : Word) : ∀ f ∈ ldaForms b w, f.RunsAs (runRead · · doLda) := by
  intro f hf
  fin_cases hf <;> exact .intro rfl fun _ => rfl

theorem ldxForms_runsAs (b : Byte) (w : Word) : ∀ f ∈ ldxForms b w, f.RunsAs (runRead · · doLdx) := by
  intro f hf
  fin_cases hf <;> exact .intro rfl fun _ => rfl

theorem ldyForms_runsAs (b : Byte) (w : Word) : ∀ f ∈ ldyForms b w, f.RunsAs (runRead · · doLdy) := by
  intro f hf
  fin_cases hf <;> exact .intro rfl fun _ => rfl

theorem staForms_runsAs (b : Byte) (w : Word) : ∀ f ∈ staForms b w, f.RunsAs (runStore · · (·.a)) := by
  intro f hf
  fin_cases hf <;> exact .intro rfl fun _ => rfl

theorem stxForms_runsAs (b : Byte) (w : Word) : ∀ f ∈ stxForms b w, f.RunsAs (runStore · · (·.x)) := by
  intro f hf
  fin_cases hf <;> exact .intro rfl fun _ => rfl

theorem styForms_runsAs (b : Byte) (w : Word) : ∀ f ∈ styForms b w, f.RunsAs (runStore · · (·.y)) := by
  intro f hf
  fin_cases hf <;> exact .intro rfl fun _ => rfl

/-- Settles O8: each encoding runs in the reading or the implied shape, and its handler is by definition the change of
registers its rule gives. -/
theorem loadsAndTransfersComplete : Obligations.LoadsAndTransfersComplete := by
  intro s b w hs
  refine ⟨fun f hf => (ldaForms_runsAs b w f hf).exec_read (fun _ _ => rfl) (fun _ _ _ => rfl) hs,
    fun f hf => (ldxForms_runsAs b w f hf).exec_read (fun _ _ => rfl) (fun _ _ _ => rfl) hs,
    fun f hf => (ldyForms_runsAs b w f hf).exec_read (fun _ _ => rfl) (fun _ _ _ => rfl) hs, ?_, ?_, ?_, ?_, ?_, ?_⟩
  · exact Form.RunsAs.exec_implied (h := doTax) (.intro rfl fun _ => rfl) (fun _ => rfl) (fun _ _ => rfl) hs
  · exact Form.RunsAs.exec_implied (h := doTay) (.intro rfl fun _ => rfl) (fun _ => rfl) (fun _ _ => rfl) hs
  · exact Form.RunsAs.exec_implied (h := doTxa) (.intro rfl fun _ => rfl) (fun _ => rfl) (fun _ _ => rfl) hs
  · exact Form.RunsAs.exec_implied (h := doTya) (.intro rfl fun _ => rfl) (fun _ => rfl) (fun _ _ => rfl) hs
  · exact Form.RunsAs.exec_implied (h := doTsx) (.intro rfl fun _ => rfl) (fun _ => rfl) (fun _ _ => rfl) hs
  · exact Form.RunsAs.exec_implied (h := doTxs) (.intro rfl fun _ => rfl) (fun _ => rfl) (fun _ _ => rfl) hs

/-- Settles O9: each encoding runs in the storing shape, with a register the fetch leaves alone. -/
theorem storesComplete : Obligations.StoresComplete := fun _ b w hs =>
  ⟨fun f hf => (staForms_runsAs b w f hf).exec_store rfl hs, fun f hf => (stxForms_runsAs b w f hf).exec_store rfl hs,
    fun f hf => (styForms_runsAs b w f hf).exec_store rfl hs⟩

end Sys2Proof.Machine
end

section
/-! PROOFS. Arithmetic and logic (spec/42_arithmetic_logic.md sections 3-6): logic, compares and BIT run in the reading
shape; increments, decrements and shifts in the read-modify-write shape, which answers `Form.afterModify`. -/

namespace Sys2Proof.Machine

/-! ## Logic, compares and BIT -/

theorem andForms_runsAs (b : Byte) (w : Word) : ∀ f ∈ andForms b w, f.RunsAs (runRead · · doAnd) := by
  intro f hf
  fin_cases hf <;> exact .intro rfl fun _ => rfl

theorem oraForms_runsAs (b : Byte) (w : Word) : ∀ f ∈ oraForms b w, f.RunsAs (runRead · · doOra) := by
  intro f hf
  fin_cases hf <;> exact .intro rfl fun _ => rfl

theorem eorForms_runsAs (b : Byte) (w : Word) : ∀ f ∈ eorForms b w, f.RunsAs (runRead · · doEor) := by
  intro f hf
  fin_cases hf <;> exact .intro rfl fun _ => rfl

theorem cmpForms_runsAs (b : Byte) (w : Word) : ∀ f ∈ cmpForms b w, f.RunsAs (runRead · · doCmp) := by
  intro f hf
  fin_cases hf <;> exact .intro rfl fun _ => rfl

theorem cpxForms_runsAs (b : Byte) (w : Word) : ∀ f ∈ cpxForms b w, f.RunsAs (runRead · · doCpx) := by
  intro f hf
  fin_cases hf <;> exact .intro rfl fun _ => rfl

theorem cpyForms_runsAs (b : Byte) (w : Word) : ∀ f ∈ cpyForms b w, f.RunsAs (runRead · · doCpy) := by
  intro f hf
  fin_cases hf <;> exact .intro rfl fun _ => rfl

theorem bitForms_runsAs (b : Byte) (w : Word) : ∀ f ∈ bitForms b w, f.RunsAs (runRead · · doBit) := by
  intro f hf
  fin_cases hf <;> exact .intro rfl fun _ => rfl

/-- Settles O11: each encoding runs in the reading shape, and its handler is by definition the change of registers its rule
gives. -/
theorem logicAndCompareComplete : Obligations.LogicAndCompareComplete := fun _ b w hs =>
  ⟨fun f hf => (andForms_runsAs b w f hf).exec_read (fun _ _ => rfl) (fun _ _ _ => rfl) hs,
    fun f hf => (oraForms_runsAs b w f hf).exec_read (fun _ _ => rfl) (fun _ _ _ => rfl) hs,
    fun f hf => (eorForms_runsAs b w f hf).exec_read (fun _ _ => rfl) (fun _ _ _ => rfl) hs,
    fun f hf => (cmpForms_runsAs b w f hf).exec_read (fun _ _ => rfl) (fun _ _ _ => rfl) hs,
    fun f hf => (cpxForms_runsAs b w f hf).exec_read (fun _ _ => rfl) (fun _ _ _ => rfl) hs,
    fun f hf => (cpyForms_runsAs b w f hf).exec_read (fun _ _ => rfl) (fun _ _ _ => rfl) hs,
    fun f hf => (bitForms_runsAs b w f hf).exec_read (fun _ _ => rfl) (fun _ _ _ => rfl) hs⟩

/-! ## The read-modify-write shape in closed form -/

/-- Writing a result back does not look at EffAddr (40 R246). -/
theorem writeBack_setEffAddr (m : Mode) (ea : Word) (v : Byte) (s : State) (e : Word) :
    writeBack m ea v (s.setEffAddr e) = (writeBack m ea v s).setEffAddr e := by
  have hwrite : memWrite (s.setEffAddr e) ea v = (memWrite s ea v).setEffAddr e := by
    rw [State.setEffAddr, memWrite_setCpu, State.setEffAddr, memWrite_cpu]
  cases m with
  | acc => rfl
  | imp | imm | zp0 | zpx | zpy | abs | abx | aby | ind | izx | izy | rel => exact hwrite

/-- Writing a result back changes no flag (40 R246). -/
theorem writeBack_p (m : Mode) (ea : Word) (v : Byte) (s : State) : (writeBack m ea v s).cpu.p = s.cpu.p := by
  cases m with
  | acc => rfl
  | imp | imm | zp0 | zpx | zpy | abs | abx | aby | ind | izx | izy | rel => exact congrArg Cpu.p (memWrite_cpu s ea v)

/-- Reading the operand changes no register (40 R234-R245). -/
theorem Form.operandRead_cpu (f : Form) (s : State) : (f.operandRead s).2.cpu = (f.begun s).cpu :=
  (readOperand_effect f.mode f.operand (f.target s).ea (f.target s).st).cpu.trans (f.target_cpu s)

/-- A read-modify-write answers the state after its one write, the registers changed by its handler, which still sees the
flags the result was computed from (40 R246). -/
theorem Form.RunsAs.exec_modify {f : Form} {r : Byte → Byte → Byte} {h : Byte → Byte → State → State}
    {g : Byte → Byte → Cpu → Cpu} (hf : f.RunsAs (runModify · · r h)) (heffect : ∀ m v t, StackEffect t (h m v t))
    (hh : ∀ m t, h m (r t.cpu.p m) t = t.setCpu (g m (r t.cpu.p m) t.cpu)) (hg : ∀ m v, KeepsEffAddr (g m v))
    {s : State} (hs : s.Ready) : exec f.instr s = .next (f.afterModify r g s) := by
  obtain ⟨hmap, hexec⟩ := hf
  let m := (f.operandRead s).1
  let v := r s.cpu.p m
  let t := writeBack f.mode (f.target s).ea v (f.operandRead s).2
  have hread : ((f.operandRead s).2.setEffAddr (f.target s).ea).cpu.p = s.cpu.p := by
    rw [State.setEffAddr_cpu, f.operandRead_cpu]
    rfl
  have hwritten : (t.setEffAddr (f.target s).ea).cpu.p = s.cpu.p := (writeBack_p ..).trans hread
  have hhandler := hh m (t.setEffAddr (f.target s).ea)
  rw [hwritten] at hhandler
  rw [(hexec s).trans (runModify_next hs f.op f.operand r heffect).1, hmap.beginAndResolve_eq, hmap.cyclesOf_eq, hmap,
    readOperand_setEffAddr, ← Form.operandRead, hread, writeBack_setEffAddr, hhandler]
  exact congrArg (fun c : Cpu => Host.Outcome.next (t.setCpu { c with cyclesLeft := f.cost s }))
    (hg m v t.cpu (f.target s).ea)

/-! ## Increments and decrements -/

theorem incForms_runsAs (b : Byte) (w : Word) : ∀ f ∈ incForms b w, f.RunsAs (runModify · · incByte doInc) := by
  intro f hf
  fin_cases hf <;> exact .intro rfl fun _ => rfl

theorem decForms_runsAs (b : Byte) (w : Word) : ∀ f ∈ decForms b w, f.RunsAs (runModify · · decByte doDec) := by
  intro f hf
  fin_cases hf <;> exact .intro rfl fun _ => rfl

/-- Settles O12: INC and DEC run in the read-modify-write shape, the register forms in the implied one, and each handler
is by definition the change of registers its rule gives. -/
theorem incrementDecrementComplete : Obligations.IncrementDecrementComplete := by
  intro s b w hs
  refine ⟨fun f hf => (incForms_runsAs b w f hf).exec_modify (fun _ _ t => setCpu_stackEffect t _) (fun _ _ => rfl)
      (fun _ _ _ _ => rfl) hs,
    fun f hf => (decForms_runsAs b w f hf).exec_modify (fun _ _ t => setCpu_stackEffect t _) (fun _ _ => rfl)
      (fun _ _ _ _ => rfl) hs, ?_, ?_, ?_, ?_⟩
  · exact Form.RunsAs.exec_implied (h := doInx) (.intro rfl fun _ => rfl) (fun _ => rfl) (fun _ _ => rfl) hs
  · exact Form.RunsAs.exec_implied (h := doIny) (.intro rfl fun _ => rfl) (fun _ => rfl) (fun _ _ => rfl) hs
  · exact Form.RunsAs.exec_implied (h := doDex) (.intro rfl fun _ => rfl) (fun _ => rfl) (fun _ _ => rfl) hs
  · exact Form.RunsAs.exec_implied (h := doDey) (.intro rfl fun _ => rfl) (fun _ => rfl) (fun _ _ => rfl) hs

/-! ## The shifts in exact arithmetic -/

theorem byte_bit7 (m : Byte) : m.getLsbD 7 = decide (128 ≤ m.toNat) := m.msb_eq_decide

theorem byte_bit0 (m : Byte) : m.getLsbD 0 = decide (m.toNat % 2 = 1) := Nat.testBit_zero _

theorem toNat_shiftLeft_one (m : Byte) : (m <<< 1).toNat = 2 ^ 1 * (m.toNat % 128) := by
  rw [BitVec.toNat_shiftLeft, Nat.shiftLeft_eq]
  omega

theorem toNat_shiftRight_one (m : Byte) : (m >>> 1).toNat = m.toNat / 2 := by
  rw [BitVec.toNat_ushiftRight, Nat.shiftRight_eq_div_pow]

/-- The byte by which a rotate brings the carry in (42 R298, R299). -/
theorem toNat_carryIn (c : Bool) (k : Byte) : (if c then k else 0#8).toNat = k.toNat * c.toNat := by
  cases c <;> simp

theorem aslFn_eq (p m : Byte) : aslFn p m = (aslOf p m, decide (128 ≤ m.toNat)) := by
  refine Prod.ext (BitVec.eq_of_toNat_eq ?_) (byte_bit7 m)
  rw [aslFn, toNat_shiftLeft_one, aslOf, BitVec.toNat_ofNat]
  omega

theorem lsrFn_eq (p m : Byte) : lsrFn p m = (lsrOf p m, decide (m.toNat % 2 = 1)) := by
  refine Prod.ext (BitVec.eq_of_toNat_eq ?_) (byte_bit0 m)
  rw [lsrFn, toNat_shiftRight_one, lsrOf, BitVec.toNat_ofNat]
  omega

/-- The carry comes in below the doubled operand, so that or is plus (42 R298). -/
theorem rolFn_eq (p m : Byte) : rolFn p m = (rolOf p m, decide (128 ≤ m.toNat)) := by
  refine Prod.ext (BitVec.eq_of_toNat_eq ?_) (byte_bit7 m)
  have hc : (p.getLsbD 0).toNat < 2 ^ 1 := Bool.toNat_lt _
  have hin : (1#8).toNat * (p.getLsbD 0).toNat = (p.getLsbD 0).toNat := Nat.one_mul _
  rw [rolFn, BitVec.toNat_or, toNat_shiftLeft_one, toNat_carryIn, getFlag, flagC, hin, ← Nat.two_pow_add_eq_or_of_lt hc,
    rolOf, BitVec.toNat_ofNat]
  omega

/-- The carry comes in above the halved operand, so that or is plus (42 R299). -/
theorem rorFn_eq (p m : Byte) : rorFn p m = (rorOf p m, decide (m.toNat % 2 = 1)) := by
  refine Prod.ext (BitVec.eq_of_toNat_eq ?_) (byte_bit0 m)
  have hc : (p.getLsbD 0).toNat < 2 := Bool.toNat_lt _
  have hm : m.toNat / 2 < 2 ^ 7 := by omega
  have hin : (0x80#8).toNat = 2 ^ 7 := rfl
  rw [rorFn, BitVec.toNat_or, toNat_shiftRight_one, toNat_carryIn, getFlag, flagC, hin, Nat.or_comm,
    ← Nat.two_pow_add_eq_or_of_lt hm, rorOf, BitVec.toNat_ofNat]
  omega

/-! ## Shifts and rotates -/

/-- The shape of ASL, LSR, ROL and ROR: a read-modify-write by `fn`, then `fn`'s flags (42 R296-R299). -/
def runShift (fn : ShiftFn) (op : Byte) (operand : Word) : State → Result :=
  runModify op operand (fun p m => (fn p m).1) fun m _ t => t.setP (shiftFlags fn t.cpu.p m)

/-- A shift answers its result written back, the bit shifted out in C. -/
theorem Form.RunsAs.exec_shift {f : Form} {fn : ShiftFn} {r : Byte → Byte → Byte} {carry : Byte → Bool}
    (hf : f.RunsAs (runShift fn)) (hfn : ∀ p m, fn p m = (r p m, carry m)) {s : State} (hs : s.Ready) :
    exec f.instr s = .next (f.afterModify r (fun m v c => withCarryNZ (carry m) v c) s) := by
  obtain rfl : fn = fun p m => (r p m, carry m) := funext₂ hfn
  exact exec_modify hf (fun _ _ t => setCpu_stackEffect t _) (fun _ _ => rfl) (fun _ _ _ _ => rfl) hs

theorem aslForms_runsAs (b : Byte) (w : Word) : ∀ f ∈ aslForms b w, f.RunsAs (runShift aslFn) := by
  intro f hf
  fin_cases hf <;> exact .intro rfl fun _ => rfl

theorem lsrForms_runsAs (b : Byte) (w : Word) : ∀ f ∈ lsrForms b w, f.RunsAs (runShift lsrFn) := by
  intro f hf
  fin_cases hf <;> exact .intro rfl fun _ => rfl

theorem rolForms_runsAs (b : Byte) (w : Word) : ∀ f ∈ rolForms b w, f.RunsAs (runShift rolFn) := by
  intro f hf
  fin_cases hf <;> exact .intro rfl fun _ => rfl

theorem rorForms_runsAs (b : Byte) (w : Word) : ∀ f ∈ rorForms b w, f.RunsAs (runShift rorFn) := by
  intro f hf
  fin_cases hf <;> exact .intro rfl fun _ => rfl

/-- Settles O13: each encoding runs in the shape of a shift, whose result and carry out are those of the exact arithmetic. -/
theorem shiftsComplete : Obligations.ShiftsComplete := fun _ b w hs =>
  ⟨fun f hf => (aslForms_runsAs b w f hf).exec_shift aslFn_eq hs,
    fun f hf => (lsrForms_runsAs b w f hf).exec_shift lsrFn_eq hs,
    fun f hf => (rolForms_runsAs b w f hf).exec_shift rolFn_eq hs,
    fun f hf => (rorForms_runsAs b w f hf).exec_shift rorFn_eq hs⟩

end Sys2Proof.Machine
end

section
/-! PROOFS. Jumps, the stack and the flags (spec/43_control_stack_flags.md sections 1, 3, 4): jumps run in the jump shape
and the rest in the implied one, with handlers that change registers and RAM alone. -/

namespace Sys2Proof.Machine

/-! ## The pointer of the indirect jump -/

/-- The high byte of an indirect pointer comes from the page of its low byte (40 R241). -/
theorem indirectHigh_toNat (p : Word) :
    ((p &&& 0xFF00#16) ||| ((p + 1#16) &&& 0x00FF#16)).toNat = p.toNat / 256 * 256 + (p.toNat + 1) % 256 := by
  have hp := p.isLt
  have hpage : p &&& 0xFF00#16 = p >>> 8 <<< 8 := (BitVec.shiftLeft_ushiftRight (x := p) (n := 8)).symm
  have hhigh : (p &&& 0xFF00#16).toNat = (p.toNat / 256) <<< 8 := by
    rw [hpage, BitVec.toNat_shiftLeft, BitVec.toNat_ushiftRight, Nat.shiftRight_eq_div_pow]
    omega
  have hlow : ((p + 1#16) &&& 0x00FF#16).toNat = (p.toNat + 1) % 256 := by
    rw [BitVec.toNat_and]
    exact (Nat.and_two_pow_sub_one_eq_mod _ 8).trans (by rw [BitVec.toNat_add, BitVec.toNat_ofNat]; omega)
  rw [BitVec.toNat_or, hhigh, hlow, ← Nat.shiftLeft_add_eq_or_of_lt (Nat.mod_lt _ (by decide)), Nat.shiftLeft_eq]

/-- On plain storage the indirect mode reads both bytes of the pointer and changes nothing (40 R241). -/
theorem resolve_ind_storable (s : State) {w w2 : Word} (hw2 : w2.toNat = w.toNat / 256 * 256 + (w.toNat + 1) % 256)
    (h : storable w = true) (h2 : storable w2 = true) :
    resolve .ind w s = ⟨wordOf (peek s w) (peek s w2), false, s⟩ := by
  obtain rfl := BitVec.eq_of_toNat_eq (hw2.trans (indirectHigh_toNat w).symm)
  rw [resolve, indirectPointer, memRead_storable_snd s h, memRead_storable_snd s h2]
  rfl

/-! ## The jump and the implied shape in closed form -/

/-- Without a page-cross penalty the cycles are the base (40 R228). -/
theorem Form.InMap.cyclesOf_base {f : Form} (hf : f.InMap) : cyclesOf f.op false = f.cycles := by
  rw [cyclesOf, hf, Bool.and_false]
  rfl

/-- Without a page-cross flag the cycles are the base (40 R228). -/
theorem Form.cost_eq_cycles {f : Form} (hpen : f.pen = false) (s : State) : f.cost s = f.cycles := by
  rw [Form.cost, hpen, if_neg (fun h => Bool.false_ne_true h.1), BitVec.add_zero]

/-- A jump answers what its handler makes of the effective address and the state after the addressing mode (40 R239). -/
theorem Form.RunsAs.exec_jump {f : Form} {h : Word → State → State} (hf : f.RunsAs (runJump · · h))
    (heffect : ∀ a t, StackEffect t (h a t)) {s : State} (hs : s.Ready) : exec f.instr s =
      .next ((h (f.target s).ea ((f.target s).st.setEffAddr (f.target s).ea)).setCycles f.cycles) := by
  obtain ⟨hmap, hexec⟩ := hf
  rw [(hexec s).trans (runJump_next hs f.op f.operand heffect).1, hmap.beginAndResolve_eq, hmap.cyclesOf_base]

/-- An implied instruction answers what its handler makes of the state after the fetch: its shape is that of a jump whose
handler does not look at the effective address (40 R234). -/
theorem Form.RunsAs.exec_implied_handler {i : Instr} {op cycles : Byte} {pen : Bool} {h : State → State}
    (hf : Form.RunsAs ⟨i, op, .imp, 0#16, cycles, pen⟩ fun o _ => runImplied o h) (heffect : ∀ t, StackEffect t (h t))
    {s : State} (hs : s.Ready) : exec i s =
      .next ((h ((Form.begun ⟨i, op, .imp, 0#16, cycles, pen⟩ s).setEffAddr 0#16)).setCycles cycles) :=
  Form.RunsAs.exec_jump (h := fun _ => h) ⟨hf.1, hf.2⟩ (fun _ => heffect) hs

/-! ## The handlers in closed form -/

/-- JSR pushes the address before the PC, high byte first, and jumps (43 R311). -/
theorem doJsr_eq (ea : Word) (s : State) : doJsr ea s = (s.setBus { s.bus with
    ram := Memory.write (Memory.write s.bus.ram (stackIndex s.cpu.s) (hiByte (s.cpu.pc - 1#16)))
      (stackIndex (s.cpu.s - 1#8)) (loByte (s.cpu.pc - 1#16)) }).setCpu
    { s.cpu with pc := ea, s := s.cpu.s - 2#8 } := by
  rw [doJsr, push16_eq, BitVec.sub_sub]
  rfl

theorem doJsr_effect (ea : Word) (s : State) : StackEffect s (doJsr ea s) :=
  doJsr_eq ea s ▸ ⟨rfl, rfl, rfl, rfl, rfl, rfl⟩

/-- RTS pulls an address and goes past it (43 R312). -/
theorem doRts_eq (s : State) : doRts s = s.setCpu { s.cpu with
    pc := wordOf (Memory.read s.bus.ram (stackIndex (s.cpu.s + 1#8)))
      (Memory.read s.bus.ram (stackIndex (s.cpu.s + 2#8))) + 1#16
    s := s.cpu.s + 2#8 } := by
  rw [doRts, pull16_eq, BitVec.add_assoc]
  rfl

/-- RTI pulls P in its stored form, then the PC (43 R315). -/
theorem doRti_eq (s : State) : doRti s = s.setCpu { s.cpu with
    p := pulledP (Memory.read s.bus.ram (stackIndex (s.cpu.s + 1#8)))
    pc := wordOf (Memory.read s.bus.ram (stackIndex (s.cpu.s + 2#8)))
      (Memory.read s.bus.ram (stackIndex (s.cpu.s + 3#8)))
    s := s.cpu.s + 3#8 } := by
  simp only [doRti, returnFromException_eq, BitVec.add_assoc, BitVec.reduceAdd]

/-- PLA pulls a byte into A and sets Z and N from it (43 R328). -/
theorem doPla_eq (s : State) : doPla s = s.setCpu { s.cpu with
    a := Memory.read s.bus.ram (stackIndex (s.cpu.s + 1#8))
    p := setNZ s.cpu.p (Memory.read s.bus.ram (stackIndex (s.cpu.s + 1#8)))
    s := s.cpu.s + 1#8 } := by
  rw [doPla, pull8_eq]
  rfl

/-- A handler that only changes registers leaves the rest alone. -/
theorem stackEffect_of_eq_setCpu {h : State → State} {c : State → Cpu} (hh : ∀ t, h t = t.setCpu (c t)) (t : State) :
    StackEffect t (h t) := hh t ▸ setCpu_stackEffect t (c t)

/-! ## Jumps and subroutines -/

theorem jmpForms_runsAs (b : Byte) (w : Word) : ∀ f ∈ jmpForms b w, f.RunsAs (runJump · · doJmp) := by
  intro f hf
  fin_cases hf <;> exact .intro rfl fun _ => rfl

theorem jmpForms_pen (b : Byte) (w : Word) : ∀ f ∈ jmpForms b w, f.pen = false := by
  intro f hf
  fin_cases hf <;> rfl

/-- JMP answers the state after its addressing mode, with the PC at the effective address (43 R310). -/
theorem exec_jmpForms {s : State} (hs : s.Ready) (b : Byte) (w : Word) : ∀ f ∈ jmpForms b w,
    exec f.instr s = .next (f.closed s (f.target s).st { (f.target s).st.cpu with pc := (f.target s).ea }) := by
  intro f hf
  rw [(jmpForms_runsAs b w f hf).exec_jump (fun _ t => setCpu_stackEffect t _) hs,
    ← Form.cost_eq_cycles (jmpForms_pen b w f hf) s]
  rfl

/-- Settles O14: JMP by its encodings, the indirect one also with its pointer read out; JSR and RTS by their handlers'
stack accesses. -/
theorem jumpsComplete : Obligations.JumpsComplete := by
  intro s b w hs
  refine ⟨exec_jmpForms hs b w, fun w2 hw2 h h2 => ?_, ?_, ?_⟩
  · let f : Form := ⟨.jmpInd w, 0x6C#8, .ind, w, 5#8, false⟩
    have htarget : f.target s = ⟨wordOf (peek s w) (peek s w2), false, f.begun s⟩ := by
      rw [Form.target, resolve_ind_storable _ hw2 h h2, Form.begun, peek_setCpu, peek_setCpu]
    have hf : f ∈ jmpForms b w := List.mem_cons_of_mem _ (List.mem_singleton_self f)
    refine (exec_jmpForms hs b w f hf).trans ?_
    rw [Form.closed, htarget]
    rfl
  · have hlast : s.cpu.pc + 2#16 = s.cpu.pc + 3#16 - 1#16 := (add_sub_assoc _ 3#16 1#16).symm
    rw [hlast, Form.RunsAs.exec_jump (f := ⟨.jsrAbs w, 0x20#8, .abs, w, 6#8, false⟩) (.intro rfl fun _ => rfl)
      doJsr_effect hs, doJsr_eq]
    rfl
  · rw [Form.RunsAs.exec_implied_handler (h := doRts) (.intro rfl fun _ => rfl)
      (stackEffect_of_eq_setCpu doRts_eq) hs, doRts_eq]
    rfl

/-! ## The stack and the flags -/

/-- Settles O17: RTI, PHA and PLA by their handlers' stack accesses; the flag instructions run in the implied shape, and
their handlers are by definition the masks of the flag. -/
theorem stackAndFlagInstructionsComplete : Obligations.StackAndFlagInstructionsComplete := by
  intro s hs
  refine ⟨?_, ?_, ?_, ?_, ?_, ?_, ?_, ?_, ?_⟩
  · rw [Form.RunsAs.exec_implied_handler (h := doRti) (.intro rfl fun _ => rfl)
      (stackEffect_of_eq_setCpu doRti_eq) hs, doRti_eq]
    rfl
  · rw [Form.RunsAs.exec_implied_handler (h := doPha) (.intro rfl fun _ => rfl)
      (fun t => push8_effect t _) hs, doPha, push8_eq]
    rfl
  · rw [Form.RunsAs.exec_implied_handler (h := doPla) (.intro rfl fun _ => rfl)
      (stackEffect_of_eq_setCpu doPla_eq) hs, doPla_eq]
    rfl
  · exact Form.RunsAs.exec_implied (h := doClc) (.intro rfl fun _ => rfl) (fun _ => rfl) (fun _ _ => rfl) hs
  · exact Form.RunsAs.exec_implied (h := doSec) (.intro rfl fun _ => rfl) (fun _ => rfl) (fun _ _ => rfl) hs
  · exact Form.RunsAs.exec_implied (h := doSei) (.intro rfl fun _ => rfl) (fun _ => rfl) (fun _ _ => rfl) hs
  · exact Form.RunsAs.exec_implied (h := doCld) (.intro rfl fun _ => rfl) (fun _ => rfl) (fun _ _ => rfl) hs
  · exact Form.RunsAs.exec_implied (h := doSed) (.intro rfl fun _ => rfl) (fun _ => rfl) (fun _ _ => rfl) hs
  · exact Form.RunsAs.exec_implied (h := doClv) (.intro rfl fun _ => rfl) (fun _ => rfl) (fun _ _ => rfl) hs

end Sys2Proof.Machine
end

section
/-! PROOFS. The undocumented opcodes (spec/44_undocumented.md sections 2, 3): the composites run in the read-modify-write
shape, with a second operation that replaces the Z and N of the first; the rest in the storing and the reading shape. -/

namespace Sys2Proof.Machine

/-! ## The flag writers, bit by bit -/

theorem withFlag_getLsbD (p : Byte) {i j : Nat} (b : Bool) (hi : i < 8) (hj : j < 8) :
    (withFlag p i b).getLsbD j = if i = j then b else p.getLsbD j := by
  simp only [eq_comm (a := i)]
  cases b with
  | true =>
    rw [withFlag, if_pos rfl, BitVec.getLsbD_or, bitMask_getLsbD hi]
    by_cases h : j = i <;> simp [h]
  | false =>
    rw [withFlag, if_neg Bool.false_ne_true, BitVec.getLsbD_and, BitVec.getLsbD_not, bitMask_getLsbD hi, decide_eq_true hj]
    by_cases h : j = i <;> simp [h]

theorem setNZ_getLsbD (p v : Byte) {j : Nat} (hj : j < 8) :
    (setNZ p v).getLsbD j = if 7 = j then v.getLsbD 7 else if 1 = j then v == 0#8 else p.getLsbD j := by
  rw [setNZ, withFlag_getLsbD _ _ (by decide) hj, withFlag_getLsbD _ _ (by decide) hj]
  rfl

/-- Z and N are what the last result makes them. -/
theorem setNZ_setNZ (p r v : Byte) : setNZ (setNZ p r) v = setNZ p v := by
  refine BitVec.eq_of_getLsbD_eq fun j hj => ?_
  simp only [setNZ_getLsbD _ _ hj]
  split_ifs <;> rfl

/-- Writing Z and N and writing another flag commute. -/
theorem withFlag_setNZ (p r : Byte) {i : Nat} (b : Bool) (hi : i < 8) (h1 : i ≠ 1) (h7 : i ≠ 7) :
    withFlag (setNZ p r) i b = setNZ (withFlag p i b) r := by
  refine BitVec.eq_of_getLsbD_eq fun j hj => ?_
  simp only [setNZ_getLsbD _ _ hj, withFlag_getLsbD _ _ hi hj]
  by_cases hij : i = j
  · subst hij
    rw [if_pos rfl, if_neg h7.symm, if_neg h1.symm, if_pos rfl]
  · simp only [if_neg hij]

/-! ## The adder in exact arithmetic -/

theorem adcSum_toNat (a m : Byte) (c : Bool) : (adcSum a m c).toNat = exactSum a m c := by
  have ha := a.isLt
  have hm := m.isLt
  cases c <;> simp [adcSum, exactSum] <;> omega

theorem adcResult_eq (a m : Byte) (c : Bool) : adcResult a m c = BitVec.ofNat 8 (exactSum a m c) := by
  apply BitVec.eq_of_toNat_eq
  rw [adcResult, BitVec.toNat_setWidth, adcSum_toNat, BitVec.toNat_ofNat]

/-- Bit 8 of the sum is its carry (42 R280). -/
theorem adcSum_carry (a m : Byte) (c : Bool) : (adcSum a m c).getLsbD 8 = decide (256 ≤ exactSum a m c) := by
  rw [← adcSum_toNat]
  exact (adcSum a m c).msb_eq_decide

/-- The overflow test by mask looks at bit 7 (42 R280). -/
theorem adcOverflow_eq (a m r : Byte) : adcOverflow a m r = (~~~(a ^^^ m) &&& (a ^^^ r)).getLsbD 7 := by
  have hmask : 0x80#8 = BitVec.twoPow 8 7 := rfl
  rw [adcOverflow, hmask, BitVec.and_twoPow]
  cases (~~~(a ^^^ m) &&& (a ^^^ r)).getLsbD 7 <;> rfl

/-- `adc` is the addition in exact arithmetic (42 R280). -/
theorem adc_eq (m : Byte) (s : State) : adc m s = s.setCpu (addTo m s.cpu) := by
  simp only [adc, adcFlags, adcResult_eq, adcSum_carry, adcOverflow_eq]
  rfl

theorem adc_effect (m : Byte) (s : State) : StackEffect s (adc m s) := adc_eq m s ▸ setCpu_stackEffect s _

/-- The sum reads C and replaces Z and N, so the Z and N before it do not matter. -/
theorem addTo_setNZ (m r : Byte) (c : Cpu) (p : Byte) :
    addTo m { c with p := setNZ p r } = addTo m { c with p := p } := by
  have hcarry : (setNZ p r).getLsbD 0 = p.getLsbD 0 := setNZ_getLsbD p r (by decide)
  simp (disch := decide) only [addTo, hcarry, withFlag_setNZ, setNZ_setNZ]

/-! ## A shift, then a second operation on the modified byte -/

/-- The shape of SLO, RLA, SRE and RRA: a read-modify-write by `fn`, then `fn`'s flags, then `second` on the modified byte
(44 R350). -/
def runShiftThen (fn : ShiftFn) (second : Byte → State → State) (op : Byte) (operand : Word) : State → Result :=
  runModify op operand (fun p m => (fn p m).1) fun m v t => second v (t.setP (shiftFlags fn t.cpu.p m))

/-- Of the flags of the shift, a second operation `g` that replaces Z and N sees the carry alone. -/
theorem Form.RunsAs.exec_shiftThen {f : Form} {fn : ShiftFn} {second : Byte → State → State} {r : Byte → Byte → Byte}
    {carry : Byte → Bool} {g : Byte → Cpu → Cpu} (hf : f.RunsAs (runShiftThen fn second))
    (hfn : ∀ p m, fn p m = (r p m, carry m)) (hsecond : ∀ v t, second v t = t.setCpu (g v t.cpu))
    (hg : ∀ v, KeepsEffAddr (g v)) (hnz : ∀ v (c : Cpu) p, g v { c with p := setNZ p v } = g v { c with p := p })
    {s : State} (hs : s.Ready) :
    exec f.instr s = .next (f.afterModify r (fun m v c => g v { c with p := withFlag c.p 0 (carry m) }) s) := by
  obtain rfl : fn = fun p m => (r p m, carry m) := funext₂ hfn
  refine exec_modify hf (fun m v t => ?_) (fun m t => ?_) (fun m v c e => hg v { c with p := withFlag c.p 0 (carry m) } e) hs
  · rw [hsecond]
    exact setCpu_stackEffect t _
  · rw [hsecond]
    exact congrArg t.setCpu (hnz (r t.cpu.p m) t.cpu (withFlag t.cpu.p 0 (carry m)))

theorem sloForms_runsAs (b : Byte) (w : Word) :
    ∀ f ∈ sloForms b w, f.RunsAs (runShiftThen aslFn fun v t => t.loadA (t.cpu.a ||| v)) := by
  intro f hf
  fin_cases hf <;> exact .intro rfl fun _ => rfl

theorem rlaForms_runsAs (b : Byte) (w : Word) :
    ∀ f ∈ rlaForms b w, f.RunsAs (runShiftThen rolFn fun v t => t.loadA (t.cpu.a &&& v)) := by
  intro f hf
  fin_cases hf <;> exact .intro rfl fun _ => rfl

theorem sreForms_runsAs (b : Byte) (w : Word) :
    ∀ f ∈ sreForms b w, f.RunsAs (runShiftThen lsrFn fun v t => t.loadA (t.cpu.a ^^^ v)) := by
  intro f hf
  fin_cases hf <;> exact .intro rfl fun _ => rfl

theorem rraForms_runsAs (b : Byte) (w : Word) : ∀ f ∈ rraForms b w, f.RunsAs (runShiftThen rorFn adc) := by
  intro f hf
  fin_cases hf <;> exact .intro rfl fun _ => rfl

/-- A shift combined into A by `comb`: Z and N are those of A, C is the bit shifted out (44 R351-R353). -/
theorem Form.RunsAs.exec_shiftCombine {f : Form} {fn : ShiftFn} {r comb : Byte → Byte → Byte} {carry : Byte → Bool}
    (hf : f.RunsAs (runShiftThen fn fun v t => t.loadA (comb t.cpu.a v)))
    (hfn : ∀ p m, fn p m = (r p m, carry m)) {s : State} (hs : s.Ready) :
    exec f.instr s = .next (f.afterModify r (fun m v c =>
      { c with a := comb c.a v, p := setNZ (withFlag c.p 0 (carry m)) (comb c.a v) }) s) :=
  hf.exec_shiftThen (g := fun v c => { c with a := comb c.a v, p := setNZ c.p (comb c.a v) }) hfn (fun _ _ => rfl)
    (fun _ _ _ => rfl) (fun v c p => congrArg (fun q => { c with a := comb c.a v, p := q }) (setNZ_setNZ p v _)) hs

/-! ## Decrement and compare, increment and subtract -/

theorem dcpForms_runsAs (b : Byte) (w : Word) : ∀ f ∈ dcpForms b w, f.RunsAs (runModify · · decByte doDcp) := by
  intro f hf
  fin_cases hf <;> exact .intro rfl fun _ => rfl

theorem iscForms_runsAs (b : Byte) (w : Word) : ∀ f ∈ iscForms b w, f.RunsAs (runModify · · incByte doIsc) := by
  intro f hf
  fin_cases hf <;> exact .intro rfl fun _ => rfl

/-- Settles O19: SLO, RLA, SRE and RRA are a shift with a second operation that replaces its Z and N; DCP and ISC run in
the read-modify-write shape with the compare and the adder. -/
theorem combinedModifyInstructionsComplete : Obligations.CombinedModifyInstructionsComplete := fun _ b w hs =>
  ⟨fun f hf => (sloForms_runsAs b w f hf).exec_shiftCombine aslFn_eq hs,
    fun f hf => (rlaForms_runsAs b w f hf).exec_shiftCombine rolFn_eq hs,
    fun f hf => (sreForms_runsAs b w f hf).exec_shiftCombine lsrFn_eq hs,
    fun f hf => (rraForms_runsAs b w f hf).exec_shiftThen rorFn_eq adc_eq (fun _ _ _ => rfl) (fun v => addTo_setNZ v v) hs,
    fun f hf => (dcpForms_runsAs b w f hf).exec_modify (fun _ _ t => setCpu_stackEffect t _) (fun _ _ => rfl)
      (fun _ _ _ _ => rfl) hs,
    fun f hf => (iscForms_runsAs b w f hf).exec_modify (g := fun _ v => addTo (~~~v)) (fun _ v => adc_effect (~~~v))
      (fun m t => adc_eq (~~~(incByte t.cpu.p m)) t) (fun _ _ _ _ => rfl) hs⟩

/-! ## Combined stores, immediates and loads -/

theorem saxForms_runsAs (b : Byte) (w : Word) : ∀ f ∈ saxForms b w, f.RunsAs (runStore · · fun c => c.a &&& c.x) := by
  intro f hf
  fin_cases hf <;> exact .intro rfl fun _ => rfl

theorem ancForms_runsAs (b : Byte) (w : Word) : ∀ f ∈ ancForms b w, f.RunsAs (runRead · · doAnc) := by
  intro f hf
  fin_cases hf <;> exact .intro rfl fun _ => rfl

theorem alrForms_runsAs (b : Byte) (w : Word) : ∀ f ∈ alrForms b w, f.RunsAs (runRead · · doAlr) := by
  intro f hf
  fin_cases hf
  exact .intro rfl fun _ => rfl

theorem arrForms_runsAs (b : Byte) (w : Word) : ∀ f ∈ arrForms b w, f.RunsAs (runRead · · doArr) := by
  intro f hf
  fin_cases hf
  exact .intro rfl fun _ => rfl

theorem axsForms_runsAs (b : Byte) (w : Word) : ∀ f ∈ axsForms b w, f.RunsAs (runRead · · doAxs) := by
  intro f hf
  fin_cases hf
  exact .intro rfl fun _ => rfl

theorem lasForms_runsAs (b : Byte) (w : Word) : ∀ f ∈ lasForms b w, f.RunsAs (runRead · · doLas) := by
  intro f hf
  fin_cases hf
  exact .intro rfl fun _ => rfl

/-- ALR's result is LSR's on A AND M (44 R360). -/
theorem alrResult_eq (p a m : Byte) : alrResult a m = lsrOf p (a &&& m) := congrArg Prod.fst (lsrFn_eq p (a &&& m))

/-- ARR's result is ROR's on A AND M (44 R361). -/
theorem arrResult_eq (p a m : Byte) : arrResult p a m = rorOf p (a &&& m) := congrArg Prod.fst (rorFn_eq p (a &&& m))

/-- ALR sets Z and N from its result and C from the bit shifted out (44 R360). -/
theorem doAlr_eq (m : Byte) (s : State) : doAlr m s = s.setCpu (withCarryNZ ((s.cpu.a &&& m).getLsbD 0)
    (lsrOf s.cpu.p (s.cpu.a &&& m)) { s.cpu with a := lsrOf s.cpu.p (s.cpu.a &&& m) }) := by
  rw [doAlr, alrFlags, alrResult_eq s.cpu.p]
  rfl

/-- ARR's C and V come from its result (44 R361). -/
theorem doArr_eq (m : Byte) (s : State) {r : Byte} (hr : r = rorOf s.cpu.p (s.cpu.a &&& m)) :
    doArr m s = s.setCpu { s.cpu with
      a := r, p := withFlag (withFlag (setNZ s.cpu.p r) 0 (r.getLsbD 6)) 6 (r.getLsbD 6 != r.getLsbD 5) } := by
  rw [doArr, arrFlags, arrResult_eq, ← hr]
  rfl

/-- Settles O20: SAX runs in the storing shape and the rest in the reading one; ALR and ARR shift by LSR's and ROR's exact
arithmetic, the other handlers are by definition the change of registers their rules give. -/
theorem storeAndImmediateCombinationsComplete : Obligations.StoreAndImmediateCombinationsComplete := fun _ b w hs =>
  ⟨fun f hf => (saxForms_runsAs b w f hf).exec_store rfl hs,
    fun f hf => (ancForms_runsAs b w f hf).exec_read (fun _ _ => rfl) (fun _ _ _ => rfl) hs,
    fun f hf => (alrForms_runsAs b w f hf).exec_read doAlr_eq (fun _ _ _ => rfl) hs,
    fun f hf => (arrForms_runsAs b w f hf).exec_read (fun m t => doArr_eq m t rfl) (fun _ _ _ => rfl) hs,
    fun f hf => (axsForms_runsAs b w f hf).exec_read (fun _ _ => rfl) (fun _ _ _ => rfl) hs,
    fun f hf => (lasForms_runsAs b w f hf).exec_read (fun _ _ => rfl) (fun _ _ _ => rfl) hs⟩

end Sys2Proof.Machine
end

section
/-! PROOFS. Exceptions (spec/60_exceptions.md): NMI, IRQ and BRK are one trap entry, at its vector and with its status
byte; at a dispatch the NMI goes first, and the I it sets keeps the IRQ out of the next lookahead. -/

namespace Sys2Proof.Machine

/-! ## Taking a trap in closed form -/

/-- Taking an exception pushes the trap frame, sets I and loads the vector (60 R390). -/
theorem enterException_eq_withTrapFrame (s : State) {vec : Word} (pushed : Byte) (h : 0x6000#16 ≤ vec)
    (h' : 0x6000#16 ≤ vec + 1#16) :
    enterException s vec pushed = (withTrapFrame s s.cpu.pc pushed).setCpu
      { s.cpu with s := s.cpu.s - 3#8, p := s.cpu.p ||| 0x04#8, pc := peek16 s vec } := by
  rw [enterException_eq s pushed h h', BitVec.sub_sub, BitVec.sub_sub]
  rfl

/-- The NMI sequence (60 R388). -/
theorem nmiSequence_eq (s : State) : nmiSequence s =
    (withTrapFrame s s.cpu.pc ((s.cpu.p &&& 0xEF#8) ||| 0x20#8)).setCpu { s.cpu with
      s := s.cpu.s - 3#8, p := s.cpu.p ||| 0x04#8, pc := peek16 s 0xFFFA#16
      nmiPending := false, nmiDue := false, cyclesLeft := 7#8 } := by
  rw [nmiSequence, nmiVector, enterException_eq_withTrapFrame s _ (by decide) (by decide)]
  rfl

/-- The IRQ sequence (60 R389). -/
theorem irqSequence_eq (s : State) : irqSequence s =
    (withTrapFrame s s.cpu.pc ((s.cpu.p &&& 0xEF#8) ||| 0x20#8)).setCpu { s.cpu with
      s := s.cpu.s - 3#8, p := s.cpu.p ||| 0x04#8, pc := peek16 s 0xFFFE#16
      irqDue := false, cyclesLeft := 7#8 } := by
  rw [irqSequence, irqVector, enterException_eq_withTrapFrame s _ (by decide) (by decide)]
  rfl

/-- BRK skips its padding byte and traps with both B bits pushed set (43 R313). -/
theorem doBrk_eq (s : State) : doBrk s = (withTrapFrame s (s.cpu.pc + 1#16) (s.cpu.p ||| 0x30#8)).setCpu { s.cpu with
    s := s.cpu.s - 3#8, p := s.cpu.p ||| 0x04#8, pc := peek16 s 0xFFFE#16 } := by
  have hvector : peek16 (s.setPc (s.cpu.pc + 1#16)) 0xFFFE#16 = peek16 s 0xFFFE#16 := by
    rw [peek16, State.setPc, peek_setCpu, peek_setCpu, peek16]
  rw [doBrk, irqVector, enterException_eq_withTrapFrame _ _ (by decide) (by decide), hvector]
  rfl

/-- A trap changes the CPU and RAM alone. -/
theorem trap_effect (s : State) (pc : Word) (status : Byte) (c : Cpu) :
    StackEffect s ((withTrapFrame s pc status).setCpu c) := ⟨rfl, rfl, rfl, rfl, rfl, rfl⟩

theorem nmiSequence_effect (s : State) : StackEffect s (nmiSequence s) := nmiSequence_eq s ▸ trap_effect s _ _ _

theorem irqSequence_effect (s : State) : StackEffect s (irqSequence s) := irqSequence_eq s ▸ trap_effect s _ _ _

theorem doBrk_effect (s : State) : StackEffect s (doBrk s) := doBrk_eq s ▸ trap_effect s _ _ _

/-! ## The dispatch of an interrupt -/

/-- With NmiDue the dispatch is the NMI sequence, whether or not IrqDue holds (60 R385). -/
theorem dispatch_nmi {s : State} (h : s.cpu.nmiDue = true) : dispatch s = finish (nmiSequence s) := if_pos h

/-- With IrqDue alone it is the IRQ sequence (60 R385). -/
theorem dispatch_irq {s : State} (hn : s.cpu.nmiDue = false) (hi : s.cpu.irqDue = true) :
    dispatch s = finish (irqSequence s) := by
  rw [dispatch, hn, if_neg Bool.false_ne_true, if_pos hi]

theorem dispatch_nmi_next {s : State} (hs : s.Ready) (h : s.cpu.nmiDue = true) : dispatch s = .next (nmiSequence s) :=
  (dispatch_nmi h).trans (finish_of_none ((nmiSequence_effect s).ready hs).1)

theorem dispatch_irq_next {s : State} (hs : s.Ready) (hn : s.cpu.nmiDue = false) (hi : s.cpu.irqDue = true) :
    dispatch s = .next (irqSequence s) :=
  (dispatch_irq hn hi).trans (finish_of_none ((irqSequence_effect s).ready hs).1)

/-- Settles O15: the interrupts' dispatches answer their sequences; BRK runs in the implied shape, which has already
moved the PC past its opcode. -/
theorem trapSavesAndChanges : Obligations.TrapSavesAndChanges := by
  intro s hs
  refine ⟨fun hn => ?_, fun hn hi => ?_, ?_⟩
  · rw [dispatch_nmi_next hs hn, nmiSequence_eq]
  · rw [dispatch_irq_next hs hn hi, irqSequence_eq]
  · have hreturn : s.cpu.pc + 2#16 = s.cpu.pc + 1#16 + 1#16 := (BitVec.add_assoc s.cpu.pc 1#16 1#16).symm
    rw [hreturn, Form.RunsAs.exec_implied_handler (h := doBrk) (.intro rfl fun _ => rfl) doBrk_effect hs, doBrk_eq]
    rfl

/-! ## Priority -/

/-- The NMI sequence sets I (60 R388). -/
theorem nmiSequence_flagI (s : State) : (nmiSequence s).cpu.p.getLsbD 2 = true := by
  have hp : (nmiSequence s).cpu.p = s.cpu.p ||| 0x04#8 := congrArg (·.cpu.p) (nmiSequence_eq s)
  rw [hp, BitVec.getLsbD_or]
  exact Bool.or_true _

/-- The NMI sequence leaves IrqDue to the lookahead (60 R388). -/
theorem nmiSequence_irqDue (s : State) : (nmiSequence s).cpu.irqDue = s.cpu.irqDue :=
  congrArg (·.cpu.irqDue) (nmiSequence_eq s)

/-- A lookahead with I set clears IrqDue (40 R225). -/
theorem lookahead_irqDue_of_flagI {c : Cpu} (h : c.p.getLsbD 2 = true) (hlast : c.cyclesLeft = 1#8) :
    (lookahead c).irqDue = false := by
  rw [lookahead, if_pos hlast, flagI, getFlag, h]
  rfl

/-- Inside an instruction there is no dispatch (40 R222). -/
theorem dispatchIfDue_of_cyclesLeft_ne_zero {s : State} (h : s.cpu.cyclesLeft ≠ 0#8) : dispatchIfDue s = .next s := if_neg h

/-- Settles O27: the dispatch tests NmiDue first, and the I that the sequence sets is in force at its lookahead. -/
theorem interruptPriority : Obligations.InterruptPriority := by
  intro s hs
  refine ⟨fun hn hi => ⟨nmiSequence s, dispatch_nmi_next hs hn, dispatch_nmi hn, nmiSequence_flagI s, ?_, ?_⟩,
    dispatchIfDue_of_cyclesLeft_ne_zero⟩
  · exact (nmiSequence_irqDue s).trans hi
  · exact lookahead_irqDue_of_flagI (nmiSequence_flagI s) rfl

end Sys2Proof.Machine
end

section
/-! PROOFS. The PPU's registers and V (spec/61_ppu.md sections 2, 3): the data port's write and IncrementCoarseX. -/

namespace Sys2Proof.Machine

/-! ## Masks and toggles as arithmetic -/

/-- The union of two words with no bit in common is their sum. -/
theorem toNat_or_of_disjoint {w : Nat} {x y : BitVec w} (h : x &&& y = 0#w) : (x ||| y).toNat = x.toNat + y.toNat := by
  rw [← BitVec.add_eq_or_of_and_eq_zero x y h, BitVec.toNat_add_of_and_eq_zero h]

/-- A word is the part outside a mask and the part under it. -/
theorem toNat_eq_outside_add_under {w : Nat} (x m : BitVec w) : x.toNat = (x &&& ~~~m).toNat + (x &&& m).toNat := by
  have hsplit : (x &&& ~~~m) ||| (x &&& m) = x := by
    rw [← BitVec.and_or_distrib_left]
    simp
  have hdisjoint : (x &&& ~~~m) &&& (x &&& m) = 0#w := by
    ext i
    simp
    tauto
  rw [← toNat_or_of_disjoint hdisjoint, hsplit]

/-- Toggling bit `k` of a number adds `2 ^ k` to it or takes it off. -/
theorem xor_two_pow_eq (n k : Nat) : n ^^^ 2 ^ k = if n / 2 ^ k % 2 = 1 then n - 2 ^ k else n + 2 ^ k := by
  have hlow : (n ^^^ 2 ^ k) % 2 ^ k = n % 2 ^ k := by
    rw [Nat.xor_mod_two_pow, Nat.mod_self, Nat.xor_zero]
  have hhigh : (n ^^^ 2 ^ k) / 2 ^ k = n / 2 ^ k ^^^ 1 := by
    rw [Nat.xor_div_two_pow, Nat.div_self (Nat.two_pow_pos k)]
  have hn := Nat.div_add_mod n (2 ^ k)
  rw [← Nat.div_add_mod (n ^^^ 2 ^ k) (2 ^ k), hlow, hhigh]
  split
  · have hodd : Odd (n / 2 ^ k) := Nat.odd_iff.mpr ‹_›
    have hpos := Nat.mul_le_mul_left (2 ^ k) hodd.pos
    rw [Nat.xor_one_of_odd hodd, Nat.mul_sub]
    omega
  · have heven : Even (n / 2 ^ k) := Nat.not_odd_iff_even.mp (mt Nat.odd_iff.mp ‹_›)
    rw [Nat.xor_one_of_even heven, Nat.mul_add]
    omega

/-! ## The data write -/

/-- A CPU write to a mirror of the PPU's data port is the data write (20 R104, 61 R428). -/
theorem memWrite_dataPort (s : State) {a : Word} (h2 : 0x2000 ≤ a.toNat) (h4 : a.toNat < 0x4000) (h : a.toNat % 8 = 7)
    (v : Byte) : memWrite s a v = dataWrite s v := by
  rw [memWrite_ppuReg s h2 h4, h]
  rfl

/-- V after an access of the data port, as a number (61 R429). -/
theorem advanceV_eq (p : Ppu) :
    p.advanceV = { p with v := BitVec.ofNat 15 ((p.v.toNat + (vramInc p).toNat) % 32768) } := by
  have h : p.v + vramInc p = BitVec.ofNat 15 ((p.v.toNat + (vramInc p).toNat) % 32768) := by bv_omega
  rw [Ppu.advanceV, h]

/-- Settles O43: the write decode leaves the data write, whose PPU-space address is V modulo 0x4000. -/
theorem dataPortWrite : Obligations.DataPortWrite := by
  intro s a v q h2 h4 h7 hq
  have haddr : s.ppu.vAddr = q := BitVec.eq_of_toNat_eq (by rw [vAddr_toNat, hq])
  rw [memWrite_dataPort s h2 h4 h7, dataWrite, haddr, ppuWrite_ppu, advanceV_eq]
  rfl

/-! ## IncrementCoarseX -/

/-- Coarse X as a number (61, notation). -/
theorem coarseX_toNat (v : VAddr) : (v &&& 0x001F#15).toNat = v.toNat % 32 := by
  rw [BitVec.toNat_and]
  exact Nat.and_two_pow_sub_one_eq_mod _ 5

/-- Settles O44: clearing coarse X takes its 31 off V, and the toggle of bit 10 adds 1024 or takes it off. -/
theorem coarseXIncrement : Obligations.CoarseXIncrement := by
  intro v
  have hmax : v &&& 0x001F#15 = 31#15 ↔ v.toNat % 32 = 31 := by rw [← BitVec.toNat_inj, coarseX_toNat]; rfl
  refine ⟨fun h => ?_, fun h => ?_⟩
  · have hclear : (v &&& ~~~0x001F#15).toNat = v.toNat - 31 := by
      have := toNat_eq_outside_add_under v 0x001F#15
      rw [coarseX_toNat] at this
      omega
    have hbit : (v.toNat - 31) / 2 ^ 10 % 2 = v.toNat / 1024 % 2 := by omega
    rw [incrementCoarseX, if_pos (hmax.mpr h), BitVec.toNat_xor, hclear]
    exact (xor_two_pow_eq _ 10).trans (by rw [hbit]; rfl)
  · rw [incrementCoarseX, if_neg (mt hmax.mp h)]
    bv_omega

end Sys2Proof.Machine
end

section
/-! PROOFS. The dot machine (spec/61_ppu.md section 1): the position, the status events, and what a dot leaves alone. -/

namespace Sys2Proof.Machine

/-! ## The position -/

/-- The counter advance is the rule for the next position (61 R422, R423). -/
theorem advanceDot_position (r : Bool) (p : Ppu) :
    ((advanceDot r p).hCount, (advanceDot r p).vCount, (advanceDot r p).isEvenFrame) = nextPosition r p := by
  have hskip : skipsDot r p = true ↔ p.vCount = 261 ∧ r = true ∧ p.isEvenFrame = false := by
    simp [skipsDot, and_assoc]
  have hend : (p.hCount + 1 = 341 ∨ p.hCount + 1 = 340 ∧ skipsDot r p = true) ↔
      (p.hCount = 340 ∨ p.hCount = 339 ∧ p.vCount = 261 ∧ r = true ∧ p.isEvenFrame = false) := by
    simp only [hskip, Nat.reduceEqDiff]
  have hlast : p.vCount + 1 = 262 ↔ p.vCount = 261 := by omega
  simp only [advanceDot, nextPosition, hend, hlast]
  split
  · split <;> rfl
  · rfl

/-- The commit leaves the position alone (61 R420). -/
theorem ppuClockRegisters_position (p : Ppu) : ((ppuClockRegisters p).hCount, (ppuClockRegisters p).vCount,
    (ppuClockRegisters p).isEvenFrame) = (p.hCount, p.vCount, p.isEvenFrame) := by
  rw [ppuClockRegisters_kept]

/-- The rule for the next position looks at the position alone. -/
theorem nextPosition_congr (r : Bool) {p q : Ppu} (h : PpuKept p q) : nextPosition r q = nextPosition r p := by
  rw [nextPosition, nextPosition, h.hCount, h.vCount, h.isEvenFrame]

/-- Over a dot the position advances by its rule (61 R422, R423). -/
theorem ppuDotAt_position (j : Nat) (s : State) :
    ((ppuDotAt j s).ppu.hCount, (ppuDotAt j s).ppu.vCount, (ppuDotAt j s).ppu.isEvenFrame)
      = nextPosition (renderingEnabled s.ppu) s.ppu := by
  rw [ppuDotAt_eq, dotFinish_ppu, ppuClockRegisters_position, advanceDot_position,
    nextPosition_congr _ (dotBodyAt_effect j s).ppu]
  rfl

/-! ## The status events -/

/-- The state that compositing sees has what the steps of a dot leave alone (61 R421). -/
theorem atCompositing_effect (j : Nat) (s : State) : DotEffect (dotStart j s) (s.atCompositing j) :=
  ((dotS1_effect _).trans (dotS2_effect _ _)).trans (dotS3_effect _ _)

/-- Off the visible dots step S4 does nothing (61 R421). -/
theorem dotS4_of_not_visibleDot {s : State} (h : visibleDot s.ppu = false) : dotS4 s = s := by
  rw [dotS4, h, if_neg Bool.false_ne_true]

/-- A dot is visible at 1 to 256 of the lines to 239 (61 R421). -/
theorem visibleDot_iff (p : Ppu) : visibleDot p = true ↔ p.vCount ≤ 239 ∧ 1 ≤ p.hCount ∧ p.hCount ≤ 256 := by
  simp only [visibleDot, visibleLine, Bool.and_eq_true, decide_eq_true_eq]

/-- Compositing sees the position at which the dot began. -/
theorem atCompositing_visibleDot (j : Nat) (s : State) : visibleDot (s.atCompositing j).ppu = visibleDot s.ppu := by
  obtain ⟨hh, hv⟩ : (s.atCompositing j).ppu.hCount = s.ppu.hCount ∧ (s.atCompositing j).ppu.vCount = s.ppu.vCount :=
    ⟨(atCompositing_effect j s).ppu.hCount, (atCompositing_effect j s).ppu.vCount⟩
  rw [visibleDot, visibleDot, hh, hv]

/-- Compositing sees the staged Status that the status events left (61 R425, R426). -/
theorem atCompositing_status (j : Nat) (s : State) : (s.atCompositing j).ppu.status = (statusEvents s.ppu).status := by
  refine (ppuDotAt_statusNew j s).2.trans ?_
  show (statusEvents { s.ppu with ppuPhase := j }).status = _
  unfold statusEvents
  split
  · rfl
  · split <;> rfl

/-- Over a dot the staged Status is what step S4 leaves of the state compositing sees. -/
theorem ppuDotAt_statusNew_eq (j : Nat) (s : State) :
    (ppuDotAt j s).ppu.status.new = (dotS4 (s.atCompositing j)).ppu.status.new := (ppuDotAt_statusNew j s).1

/-- Compositing leaves the staged Status alone or sets its hit bit (61 R470). -/
theorem dotS4_statusNew (s : State) :
    (dotS4 s).ppu.status.new = s.ppu.status.new ∨ (dotS4 s).ppu.status.new = s.ppu.status.new ||| 0x40#8 := by
  rw [dotS4]
  split
  · rcases compositeDot_ppu s with h | h <;> rw [h]
    · exact .inl rfl
    · exact .inr rfl
  · exact .inl rfl

/-- Off the visible dots the staged Status is what the status events leave. -/
theorem ppuDotAt_statusNew_of_not_visibleDot (j : Nat) {s : State} (h : visibleDot s.ppu = false) :
    (ppuDotAt j s).ppu.status.new = (statusEvents s.ppu).status.new := by
  rw [ppuDotAt_statusNew_eq, dotS4_of_not_visibleDot ((atCompositing_visibleDot j s).trans h), atCompositing_status]

/-- The vblank set (61 R425). -/
theorem statusEvents_vblank {p : Ppu} (h : p.vCount = 241 ∧ p.hCount = 1) :
    (statusEvents p).status.new = p.status.new ||| 0x80#8 := by
  rw [statusEvents, if_pos h]
  rfl

/-- The pre-render clear (61 R426). -/
theorem statusEvents_preRender {p : Ppu} (h : p.vCount = 261 ∧ p.hCount = 1) :
    (statusEvents p).status.new = p.status.new &&& 0x1F#8 := by
  have hv : ¬ (p.vCount = 241 ∧ p.hCount = 1) := by omega
  rw [statusEvents, if_neg hv, if_pos h]
  simp only [Clocked.clear, BitVec.and_assoc]
  rfl

/-- At every other dot there is no status event. -/
theorem statusEvents_of_other {p : Ppu} (h : ¬ ((p.vCount = 241 ∨ p.vCount = 261) ∧ p.hCount = 1)) :
    statusEvents p = p := by
  rw [statusEvents, if_neg (by omega), if_neg (by omega)]

/-- Settles O46: the counter advance is the rule for the position; the status events fall on dots that show no pixel, and
at every other dot only compositing touches the staged Status. -/
theorem dotPositionAndStatus : Obligations.DotPositionAndStatus := by
  intro j s
  have hoff : 240 ≤ s.ppu.vCount → visibleDot s.ppu = false := fun h => by
    rw [Bool.eq_false_iff, ne_eq, visibleDot_iff]
    omega
  refine ⟨ppuDotAt_position j s, fun h => ?_, fun h => ?_, fun h => ?_⟩
  · rw [ppuDotAt_statusNew_of_not_visibleDot j (hoff (by omega)), statusEvents_vblank h]
  · rw [ppuDotAt_statusNew_of_not_visibleDot j (hoff (by omega)), statusEvents_preRender h]
  · have hstatus := atCompositing_status j s
    rw [statusEvents_of_other h] at hstatus
    rw [ppuDotAt_statusNew_eq, ← hstatus]
    exact dotS4_statusNew _

/-! ## What a dot leaves alone -/

/-- The counter advance and the commit leave alone what no step of a dot touches (61 R420, R422). -/
theorem dotFinish_registers (r : Bool) (b : State) :
    (dotFinish r b).ppu.oam = b.ppu.oam ∧ (dotFinish r b).ppu.t = b.ppu.t ∧ (dotFinish r b).ppu.x = b.ppu.x ∧
    (dotFinish r b).ppu.w = b.ppu.w ∧ (dotFinish r b).ppu.readBuffer = b.ppu.readBuffer ∧
    (dotFinish r b).ppu.oamAddr = b.ppu.oamAddr := by
  rw [dotFinish_ppu, ppuClockRegisters_kept, advanceDot_kept]
  exact ⟨rfl, rfl, rfl, rfl, rfl, rfl⟩

/-- With rendering off or off the render lines the background pipeline rests (61 R424, R444). -/
theorem ppuDotAt_bg_rests (j : Nat) {s : State} (h : renderingEnabled s.ppu = false ∨ renderLine s.ppu.vCount = false) :
    BgSame s.ppu (ppuDotAt j s).ppu := by
  have hline : (dotS1 (dotStart j s)).ppu.vCount = s.ppu.vCount := (dotS1_effect (dotStart j s)).ppu.vCount
  have hrest : dotS2 (renderingEnabled s.ppu) (dotS1 (dotStart j s)) = dotS1 (dotStart j s) := by
    rw [dotS2, hline, if_neg]
    rcases h with h | h <;> rw [h] <;> simp
  have hS2 := ppuDotAt_bg j s
  rw [hrest] at hS2
  have hstart : BgSame s.ppu (dotStart j s).ppu := ⟨rfl, rfl, rfl, rfl, rfl, rfl, rfl, rfl, rfl⟩
  exact (hstart.trans (dotS1_bg _)).trans hS2

/-- The sprite line commit leaves the slots alone (61 R460). -/
theorem spriteCommitStage_sprites (r : Bool) (s : State) : (spriteCommitStage r s).ppu.sprites = s.ppu.sprites := by
  unfold spriteCommitStage spriteCommit
  repeat' split
  all_goals rfl

/-- With rendering off or off the visible lines step S6 leaves the slots alone (61 R461). -/
theorem dotS6_sprites_of_no_fetch {r : Bool} {s : State} (h : (visibleLine s.ppu.vCount && r) = false) :
    (dotS6 r s).ppu.sprites = s.ppu.sprites := by
  have hline : (spriteCommitStage r s).ppu.vCount = s.ppu.vCount := by
    unfold spriteCommitStage
    split
    · exact (spriteCommit_kept r s.ppu).vCount
    · rfl
  rw [dotS6]
  split
  · rw [spriteLineDot, spriteFetchStage, hline, h, if_neg Bool.false_ne_true, spriteCommitStage_sprites]
  · rfl

/-- With rendering off or off the visible lines the slots rest (61 R461, R467). -/
theorem ppuDotAt_sprites_rest (j : Nat) {s : State} (h : (visibleLine s.ppu.vCount && renderingEnabled s.ppu) = false) :
    (ppuDotAt j s).ppu.sprites = s.ppu.sprites := by
  obtain ⟨w, hw, -, hshift, hS6⟩ := ppuDotAt_line j s
  have hline : w.ppu.vCount = s.ppu.vCount := hw.ppu.vCount
  have hno : shiftsSprites (renderingEnabled s.ppu) s.ppu = false := by
    rw [shiftsSprites, Bool.and_comm (renderingEnabled s.ppu), h, Bool.false_and]
  rw [hno, if_neg Bool.false_ne_true] at hshift
  rw [hS6.sprites, dotS6_sprites_of_no_fetch (by rwa [hline]), hshift.sprites]

/-- Off the render lines step S6 does nothing (61 R421). -/
theorem dotS6_of_not_renderLine (r : Bool) {s : State} (h : renderLine s.ppu.vCount = false) : dotS6 r s = s := by
  rw [dotS6, spriteLineDots, h, Bool.false_and, if_neg Bool.false_ne_true]

/-- Off the render lines the sprite line rests (61 R460, R467). -/
theorem ppuDotAt_line_rests (j : Nat) {s : State} (h : renderLine s.ppu.vCount = false) :
    LineSame s.ppu (ppuDotAt j s).ppu := by
  obtain ⟨w, hw, -, hshift, hS6⟩ := ppuDotAt_line j s
  have hline : w.ppu.vCount = s.ppu.vCount := hw.ppu.vCount
  have hvisible : visibleLine s.ppu.vCount = false := (Bool.or_eq_false_iff.mp h).1
  have hno : shiftsSprites (renderingEnabled s.ppu) s.ppu = false := by
    rw [shiftsSprites, hvisible, Bool.and_false, Bool.false_and]
  rw [hno, if_neg Bool.false_ne_true] at hshift
  rw [dotS6_of_not_renderLine _ (by rwa [hline])] at hS6
  exact hshift.trans hS6

/-- Lines 240 to 260 are no render lines (61, notation). -/
theorem renderLine_of_idle {l : Nat} (h : 240 ≤ l ∧ l ≤ 260) : renderLine l = false := by
  have h239 : ¬ l ≤ 239 := by omega
  have h261 : l ≠ 261 := by omega
  simp [renderLine, visibleLine, preRenderLine, h239, h261]

/-- Rendering is off exactly when both layers are hidden (61 R424). -/
theorem renderingEnabled_eq_false_iff (p : Ppu) : renderingEnabled p = false ↔
    p.mask.current.getLsbD 3 = false ∧ p.mask.current.getLsbD 4 = false := Bool.or_eq_false_iff

/-- Settles O51: no step of a dot touches anything outside the pipelines, and the pipelines' steps are those of a render
line with rendering enabled. -/
theorem renderingFrame : Obligations.RenderingFrame := by
  rintro j s t idle rfl hidle
  have hdot := ppuDotAt_effect j s
  have hbody := (dotBodyAt_effect j s).ppu
  obtain ⟨hoam, ht, hx, hw, hbuffer, haddr⟩ := dotFinish_registers (renderingEnabled s.ppu)
    (dotBody (renderingEnabled s.ppu) (dotStart j s))
  have hline : idle → renderLine s.ppu.vCount = false := fun h => renderLine_of_idle (hidle.mp h)
  refine ⟨hdot.cpu, hdot.cart, hdot.params, hdot.bus, hoam.trans hbody.oam, ht.trans hbody.t, hx.trans hbody.x,
    hw.trans hbody.w, hbuffer.trans hbody.readBuffer, haddr.trans hbody.oamAddr, fun h => ?_, fun h => ?_⟩
  · rw [← renderingEnabled_eq_false_iff] at h
    have hbg := ppuDotAt_bg_rests j (h.imp_right hline)
    refine ⟨hbg.v, hbg.bgPatLo, hbg.bgPatHi, hbg.bgAttLo, hbg.bgAttHi, hbg.nextTileId, hbg.nextTileAttr, hbg.nextTileLo,
      hbg.nextTileHi, ?_⟩
    rcases h with hoff | hi
    · exact ppuDotAt_sprites_rest j (by rw [hoff, Bool.and_false])
    · exact (ppuDotAt_line_rests j (hline hi)).sprites
  · have hrests := ppuDotAt_line_rests j (hline h)
    exact ⟨hrests.sprCount, hrests.spr0InLine⟩

end Sys2Proof.Machine
end

section
/-! PROOFS. What an instruction and the CPU's part of a system cycle are made of (40 R226, R245, R246, 70 R520): CPU reads,
CPU writes, and changes of registers and the stack. What all of these keep, every step of the CPU keeps; so it is with
the sprite-overflow flag, which no access sets (spec/61_ppu.md section 6). -/

namespace Sys2Proof.Machine

/-! ## The accesses of an instruction -/

/-- A relation between states that holds across a CPU read, a CPU write and a change of registers and the stack, and
across what is made of them. -/
structure AccessClosed (R : State → State → Prop) : Prop where
  trans     : ∀ {s t u : State}, R s t → R t u → R s u
  read      : ∀ {s t : State}, ReadEffect s t → R s t
  write     : ∀ (s : State) (a : Word) (v : Byte), R s (memWrite s a v)
  registers : ∀ {s t : State}, StackEffect s t → R s t

/-- PLP pulls P with its B bits forced (43 R325). -/
theorem doPlp_eq (s : State) : doPlp s = s.setCpu { s.cpu with
    s := s.cpu.s + 1#8, p := pulledP (Memory.read s.bus.ram (stackIndex (s.cpu.s + 1#8))) } := by
  rw [doPlp, pull8_eq]
  rfl

/-- A fetch only reads (40 R226). -/
theorem fetch_effect (s : State) : ReadEffect s (fetch s).st := by
  have h1 := memRead_effect s s.cpu.pc
  have h2 := h1.trans (memRead_effect _ (s.cpu.pc + 1#16))
  rw [fetch]
  split
  · exact h1
  · exact h2
  · exact h2.trans (memRead_effect _ (s.cpu.pc + 2#16))

namespace AccessClosed

variable {R : State → State → Prop} (H : AccessClosed R)
include H

theorem setCpu (s : State) (c : Cpu) : R s (s.setCpu c) := H.registers (setCpu_stackEffect s c)

/-- Across the start of an instruction and its mode (40 R226, R234-R244). -/
theorem begun (op : Byte) (operand : Word) (s : State) : R s (beginAndResolve op operand s).st :=
  H.trans (H.trans (H.setCpu s _) (H.read (resolve_effect _ operand (beginInstr op s)))) (H.setCpu _ _)

/-- Across a write-back (40 R246). -/
theorem writeBack (m : Mode) (ea : Word) (v : Byte) (s : State) : R s (writeBack m ea v s) := by
  cases m
  case acc => exact H.setCpu s _
  all_goals exact H.write s ea v

variable {op : Byte} {operand : Word} {s t : State}

/-- Across what an instruction does to `u` and the load of CyclesLeft that ends it. -/
theorem finish {u : State} {n : Byte} (hu : R s u) (h : finish (u.setCycles n) = .next t) : R s t := by
  obtain ⟨-, rfl⟩ := finish_eq_next.mp h
  exact H.trans hu (H.setCpu u _)

theorem runRead {f : Byte → State → State} (h : runRead op operand f s = .next t) (hf : ∀ m u, StackEffect u (f m u)) :
    R s t :=
  H.finish (H.trans (H.trans (H.begun op operand s) (H.read (readOperand_effect ..))) (H.registers (hf _ _))) h

theorem runStore {src : Cpu → Byte} (h : runStore op operand src s = .next t) : R s t :=
  H.finish (H.trans (H.begun op operand s) (H.write ..)) h

theorem runModify {f : Byte → Byte → Byte} {g : Byte → Byte → State → State} (h : runModify op operand f g s = .next t)
    (hg : ∀ m r u, StackEffect u (g m r u)) : R s t :=
  H.finish (H.trans (H.trans (H.trans (H.begun op operand s) (H.read (readOperand_effect ..))) (H.writeBack ..))
    (H.registers (hg _ _ _))) h

theorem runImplied {f : State → State} (h : runImplied op f s = .next t) (hf : ∀ u, StackEffect u (f u)) : R s t :=
  H.finish (H.trans (H.begun op 0#16 s) (H.registers (hf _))) h

theorem runJump {f : Word → State → State} (h : runJump op operand f s = .next t) (hf : ∀ a u, StackEffect u (f a u)) :
    R s t :=
  H.finish (H.trans (H.begun op operand s) (H.registers (hf _ _))) h

theorem runBranch {rel : Byte} {cond : Byte → Bool} (h : runBranch op rel cond s = .next t) : R s t := by
  refine H.finish (H.trans (H.begun op (zeroPage rel) s) ?_) h
  split
  · exact H.setCpu _ _
  · exact H.setCpu _ _

theorem runKill (h : runKill op operand s = .next t) : R s t :=
  H.finish (H.trans (H.begun op operand s) (H.setCpu _ _)) h

/-- Every instruction is reads, writes and changes of registers and the stack, in the shape it runs in. -/
theorem exec {i : Instr} (h : exec i s = .next t) : R s t := by
  cases i with
  | oraIzx _ | nopZp004 _ | oraZp0 _ | oraImm _ | ancImm0B _ | nopAbs0C _ | oraAbs _ | oraIzy _ | nopZpx14 _
    | oraZpx _ | oraAby _ | nopAbx1C _ | oraAbx _ | andIzx _ | bitZp0 _ | andZp0 _ | andImm _ | ancImm2B _ | bitAbs _
    | andAbs _ | andIzy _ | nopZpx34 _ | andZpx _ | andAby _ | nopAbx3C _ | andAbx _ | eorIzx _ | nopZp044 _
    | eorZp0 _ | eorImm _ | alrImm _ | eorAbs _ | eorIzy _ | nopZpx54 _ | eorZpx _ | eorAby _ | nopAbx5C _ | eorAbx _
    | adcIzx _ | nopZp064 _ | adcZp0 _ | adcImm _ | arrImm _ | adcAbs _ | adcIzy _ | nopZpx74 _ | adcZpx _ | adcAby _
    | nopAbx7C _ | adcAbx _ | nopImm80 _ | nopImm82 _ | nopImm89 _ | ldyImm _ | ldaIzx _ | ldxImm _ | laxIzx _
    | ldyZp0 _ | ldaZp0 _ | ldxZp0 _ | laxZp0 _ | ldaImm _ | laxImm _ | ldyAbs _ | ldaAbs _ | ldxAbs _ | laxAbs _
    | ldaIzy _ | laxIzy _ | ldyZpx _ | ldaZpx _ | ldxZpy _ | laxZpy _ | ldaAby _ | lasAby _ | ldyAbx _ | ldaAbx _
    | ldxAby _ | laxAby _ | cpyImm _ | cmpIzx _ | nopImmC2 _ | cpyZp0 _ | cmpZp0 _ | cmpImm _ | axsImm _ | cpyAbs _
    | cmpAbs _ | cmpIzy _ | nopZpxD4 _ | cmpZpx _ | cmpAby _ | nopAbxDC _ | cmpAbx _ | cpxImm _ | sbcIzx _
    | nopImmE2 _ | cpxZp0 _ | sbcZp0 _ | sbcImm _ | sbcImmEB _ | cpxAbs _ | sbcAbs _ | sbcIzy _ | nopZpxF4 _
    | sbcZpx _ | sbcAby _ | nopAbxFC _ | sbcAbx _ => exact H.runRead h fun _ t => setCpu_stackEffect t _
  | staIzx _ | styZp0 _ | staZp0 _ | stxZp0 _ | styAbs _ | staAbs _ | stxAbs _ | staIzy _ | styZpx _ | staZpx _ | stxZpy _
    | staAby _ | staAbx _ => exact H.runStore h
  | saxIzx _ | saxZp0 _ | saxAbs _ | saxZpy _ => exact H.runStore (src := fun c => c.a &&& c.x) h
  | sloIzx _ | aslZp0 _ | sloZp0 _ | aslAcc | aslAbs _ | sloAbs _ | sloIzy _ | aslZpx _ | sloZpx _ | sloAby _
    | aslAbx _ | sloAbx _ | rlaIzx _ | rolZp0 _ | rlaZp0 _ | rolAcc | rolAbs _ | rlaAbs _ | rlaIzy _ | rolZpx _
    | rlaZpx _ | rlaAby _ | rolAbx _ | rlaAbx _ | sreIzx _ | lsrZp0 _ | sreZp0 _ | lsrAcc | lsrAbs _ | sreAbs _
    | sreIzy _ | lsrZpx _ | sreZpx _ | sreAby _ | lsrAbx _ | sreAbx _ | rraIzx _ | rorZp0 _ | rraZp0 _ | rorAcc
    | rorAbs _ | rraAbs _ | rraIzy _ | rorZpx _ | rraZpx _ | rraAby _ | rorAbx _ | rraAbx _ | dcpIzx _ | decZp0 _
    | dcpZp0 _ | decAbs _ | dcpAbs _ | dcpIzy _ | decZpx _ | dcpZpx _ | dcpAby _ | decAbx _ | dcpAbx _ | iscIzx _
    | incZp0 _ | iscZp0 _ | incAbs _ | iscAbs _ | iscIzy _ | incZpx _ | iscZpx _ | iscAby _ | incAbx _ | iscAbx _ =>
    exact H.runModify h fun _ _ t => setCpu_stackEffect t _
  | clc | nopImp1A | sec | nopImp3A | cli | nopImp5A | sei | nopImp7A | dey | txa | tya | txs | tay | tax | clv | tsx
    | iny | dex | cld | nopImpDA | inx | nop | sed | nopImpFA => exact H.runImplied h fun t => setCpu_stackEffect t _
  | php | pha => exact H.runImplied h fun t => push8_effect t _
  | pla => exact H.runImplied h (stackEffect_of_eq_setCpu doPla_eq)
  | plp => exact H.runImplied h (stackEffect_of_eq_setCpu doPlp_eq)
  | rts => exact H.runImplied h (stackEffect_of_eq_setCpu doRts_eq)
  | rti => exact H.runImplied h (stackEffect_of_eq_setCpu doRti_eq)
  | brk => exact H.runImplied h doBrk_effect
  | jmpAbs _ | jmpInd _ => exact H.runJump h fun _ t => setCpu_stackEffect t _
  | jsrAbs _ => exact H.runJump h doJsr_effect
  | bpl _ => exact H.runBranch (cond := fun p => !getFlag p flagN) h
  | bmi _ => exact H.runBranch (cond := fun p => getFlag p flagN) h
  | bvc _ => exact H.runBranch (cond := fun p => !getFlag p flagV) h
  | bvs _ => exact H.runBranch (cond := fun p => getFlag p flagV) h
  | bcc _ => exact H.runBranch (cond := fun p => !getFlag p flagC) h
  | bcs _ => exact H.runBranch (cond := fun p => getFlag p flagC) h
  | bne _ => exact H.runBranch (cond := fun p => !getFlag p flagZ) h
  | beq _ => exact H.runBranch (cond := fun p => getFlag p flagZ) h
  | kil02 | kil12 | kil22 | kil32 | kil42 | kil52 | kil62 | kil72 | xaaImm _ | kil92 | ahxIzy _ | tasAby _ | shyAbx _
    | shxAby _ | ahxAby _ | kilB2 | kilD2 | kilF2 => exact H.runKill h

/-- Across the dispatch (40 R226, R227): the NMI or the IRQ sequence, or the fetch and the instruction. -/
theorem dispatch (h : dispatch s = .next t) : R s t := by
  rw [Machine.dispatch] at h
  split at h
  · obtain ⟨-, rfl⟩ := finish_eq_next.mp h
    exact H.registers (nmiSequence_effect s)
  · split at h
    · obtain ⟨-, rfl⟩ := finish_eq_next.mp h
      exact H.registers (irqSequence_effect s)
    · exact H.trans (H.read (fetch_effect s)) (H.exec h)

/-- Across step T3 of a tick, which dispatches or does nothing (40 R222). -/
theorem dispatchIfDue (h : dispatchIfDue s = .next t) : R s t := by
  rw [Machine.dispatchIfDue] at h
  split at h
  · exact H.dispatch h
  · cases h
    exact H.setCpu s s.cpu

/-- Across the acting steps of a tick (40 R222). -/
theorem actingTick (h : actingTick s = .next t) : R s t := by
  rw [Machine.actingTick] at h
  split at h
  · cases h
    exact H.setCpu s s.cpu
  · obtain ⟨u, hu, h⟩ := andThen_eq_next.mp h
    cases h
    have hdetect : R s (detectInterrupts s) := H.setCpu s _
    have hdispatch : R (detectInterrupts s) u := H.dispatchIfDue hu
    exact H.trans (H.trans hdetect hdispatch) (H.setCpu u _)

/-- Across a tick (40 R220). -/
theorem cpuTick (h : cpuTick s = .next t) : R s t := by
  rw [Machine.cpuTick] at h
  split at h
  · cases h
    exact H.setCpu s _
  · exact H.trans (H.setCpu s _) (H.actingTick h)

/-- Across the CPU's part of a system cycle (70 R520). -/
theorem cpuPart (h : cpuPart s = .next t) : R s t := by
  by_cases hd : s.bus.dmaState = .running
  · rw [cpuPart_running hd] at h
    cases h
    exact H.setCpu s s.cpu
  · rw [cpuPart_not_running hd] at h
    obtain ⟨u, hu, h⟩ := andThen_eq_next.mp h
    exact H.trans (H.cpuTick hu) (H.cpuTick h)

end AccessClosed

/-! ## The sprite-overflow flag -/

/-- The sprite-overflow flag is clear in both halves of Status (61 R466). -/
def OverflowClear (p : Ppu) : Prop := p.status.current.getLsbD 5 = false ∧ p.status.new.getLsbD 5 = false

/-- A PPU with the same Status has the same flag. -/
theorem OverflowClear.of_status_eq {p q : Ppu} (h : q.status = p.status) (hp : OverflowClear p) : OverflowClear q := by
  rwa [OverflowClear, h]

/-- The clear of the vblank bit leaves the flag clear. -/
theorem OverflowClear.of_status_clear {p q : Ppu} (h : q.status = p.status.clear 7) (hp : OverflowClear p) :
    OverflowClear q := by
  obtain ⟨hc, hn⟩ := hp
  refine ⟨?_, ?_⟩
  · rwa [h, Clocked.clear_current]
  · rw [h, Clocked.clear_new_getLsbD p.status (by decide) (by decide), hn, Bool.false_and]

/-- A CPU read leaves Status alone or clears its vblank bit (61 R431). -/
theorem OverflowClear.of_read {s t : State} (h : ReadEffect s t) (hs : OverflowClear s.ppu) : OverflowClear t.ppu := by
  rcases h.status with heq | hclear
  · exact hs.of_status_eq heq
  · exact hs.of_status_clear hclear

/-- No write of a PPU register reaches Status (61 R428). -/
theorem ppuCpuWrite_status (s : State) (r : BitVec 3) (v : Byte) : (ppuCpuWrite s r v).ppu.status = s.ppu.status := by
  unfold ppuCpuWrite scrollWrite addrWrite
  split
  case h_6 | h_7 => split <;> rfl
  case h_8 =>
    show (ppuWrite s s.ppu.vAddr v).ppu.status = s.ppu.status
    rw [ppuWrite_ppu]
  all_goals rfl

/-- No CPU write reaches Status (61 R428). -/
theorem memWrite_status (s : State) (a : Word) (v : Byte) : (memWrite s a v).ppu.status = s.ppu.status := by
  cases hm : mapperWriteCpu s.cart a v with
  | some c => rw [memWrite, hm]
  | none =>
    rw [memWrite_of_unclaimed hm]
    split
    · rfl
    · split
      · exact ppuCpuWrite_status s _ v
      · split
        · rfl
        · split <;> rfl

/-- The flag stays clear across every access of the CPU. -/
theorem overflowClear_accessClosed : AccessClosed fun s t => OverflowClear s.ppu → OverflowClear t.ppu where
  trans h g hs := g (h hs)
  read h hs := hs.of_read h
  write s a v hs := hs.of_status_eq (memWrite_status s a v)
  registers h hs := hs.of_status_eq (congrArg Ppu.status h.ppu)

/-- The flag stays clear across a DMA step (20 R118-R120). -/
theorem OverflowClear.dmaStep {s : State} (hs : OverflowClear s.ppu) : OverflowClear (dmaStep s).ppu := by
  rw [Machine.dmaStep]
  split
  · exact hs
  · exact hs
  · split
    · have hread := hs.of_read (memRead_effect s (s.bus.dmaBase + BitVec.ofNat 16 s.bus.dmaCount))
      exact hread
    · exact hs.of_status_eq (memWrite_status s 0x2004#16 s.bus.dmaData)

/-- After a dot the visible half of Status is what it was, or what is staged after the dot (61 R420). -/
theorem ppuDotAt_statusCurrent (j : Nat) (s : State) : (ppuDotAt j s).ppu.status.current = s.ppu.status.current ∨
    (ppuDotAt j s).ppu.status.current = (ppuDotAt j s).ppu.status.new := by
  have hbody : (dotBody (renderingEnabled s.ppu) (dotStart j s)).ppu.status.current = s.ppu.status.current :=
    (dotBodyAt_effect j s).ppu.current
  rw [ppuDotAt_eq, dotFinish_ppu, ppuClockRegisters]
  split
  · exact .inr rfl
  · left
    rw [advanceDot_kept]
    exact hbody

/-- The flag stays clear across a dot: no status event and no hit sets it (61 R425, R426, R466, R470). -/
theorem OverflowClear.ppuDotAt (j : Nat) {s : State} (hs : OverflowClear s.ppu) : OverflowClear (ppuDotAt j s).ppu := by
  obtain ⟨hc, hn⟩ := hs
  obtain ⟨-, hvblank, hpre, hother⟩ := dotPositionAndStatus j s
  have hnew : (Machine.ppuDotAt j s).ppu.status.new.getLsbD 5 = false := by
    by_cases h1 : s.ppu.vCount = 241 ∧ s.ppu.hCount = 1
    · rw [hvblank h1, BitVec.getLsbD_or, hn]
      rfl
    · by_cases h2 : s.ppu.vCount = 261 ∧ s.ppu.hCount = 1
      · rw [hpre h2, BitVec.getLsbD_and, hn, Bool.false_and]
      · rcases hother (by omega) with h | h
        · rw [h, hn]
        · rw [h, BitVec.getLsbD_or, hn]
          rfl
  refine ⟨?_, hnew⟩
  rcases ppuDotAt_statusCurrent j s with h | h
  · rw [h, hc]
  · rw [h, hnew]

/-- Settles O47: the CPU's accesses, the DMA step and the three dots of a cycle each leave the flag clear. -/
theorem overflowFlagNeverSet : Obligations.OverflowFlagNeverSet := by
  refine ⟨fun s t hc hn h => ?_, rfl, rfl⟩
  rw [step_eq_cpuPart (refusal_none_of_step h)] at h
  obtain ⟨u, hu, h⟩ := andThen_eq_next.mp h
  obtain ⟨-, rfl⟩ := finish_eq_next.mp h
  have hcpu : OverflowClear u.ppu := overflowClear_accessClosed.cpuPart hu ⟨hc, hn⟩
  exact ((hcpu.dmaStep.ppuDotAt 0).ppuDotAt 1).ppuDotAt 2

end Sys2Proof.Machine
end

section
/-! PROOFS. Sprite slots, pixels and compositing (spec/61_ppu.md sections 4, 6, 7): what a slot holds after its fetch, which
pixel each layer shows, which one is emitted, and the sprite-0 hit. -/

namespace Sys2Proof.Machine

/-! ## The slots -/

/-- What the slots hold after one of them is replaced. -/
theorem spriteSlot_setSlot {p : Ppu} {i : Nat} (hi : i < p.sprites.length) (sl : SprSlot) (k : Nat) :
    spriteSlot (setSlot p i sl) k = if k = i then sl else spriteSlot p k := by
  rw [spriteSlot, setSlot, List.getD_eq_getElem?_getD, List.getElem?_set]
  by_cases h : k = i
  · rw [if_pos h, if_pos h.symm, if_pos hi, Option.getD_some]
  · rw [if_neg h, if_neg (Ne.symm h), spriteSlot, List.getD_eq_getElem?_getD]

/-- The low pattern byte of phase 4 goes to its slot, 0 in an empty one (61 R461-R464). -/
theorem spriteFetchLo_ppu (s : State) (i : Nat) : (spriteFetchLo s i).ppu = setSlot s.ppu i { spriteSlot s.ppu i with
    patLo := if i < s.ppu.sprCount then
        flipped (spriteSlot s.ppu i).attr (ppuRead s (spritePatternAddr s.params.spriteSize s.ppu i)).1
      else 0#8 } := by
  by_cases h : i < s.ppu.sprCount
  · simp only [spriteFetchLo, if_pos h, State.setPpu_ppu, ppuRead_ppu]
  · simp only [spriteFetchLo, if_neg h, State.setPpu_ppu]

/-- The high pattern byte of phase 6 goes to its slot, 0 in an empty one (61 R461-R464). -/
theorem spriteFetchHi_ppu (s : State) (i : Nat) : (spriteFetchHi s i).ppu = setSlot s.ppu i { spriteSlot s.ppu i with
    patHi := if i < s.ppu.sprCount then
        flipped (spriteSlot s.ppu i).attr (ppuRead s (spritePatternAddr s.params.spriteSize s.ppu i + 8#14)).1
      else 0#8 } := by
  by_cases h : i < s.ppu.sprCount
  · simp only [spriteFetchHi, if_pos h, State.setPpu_ppu, ppuRead_ppu]
  · simp only [spriteFetchHi, if_neg h, State.setPpu_ppu]

/-! ## Horizontal flip -/

/-- Bit `k` of a reversed byte is bit `7 - k` of the byte (61 R463). -/
theorem reverseByte_getLsbD (b : Byte) {k : Nat} (hk : k < 8) : (reverseByte b).getLsbD k = b.getLsbD (7 - k) := by
  simp only [reverseByte, BitVec.getLsbD_append, BitVec.getLsbD_ofBool]
  match k, hk with
  | 0, _ | 1, _ | 2, _ | 3, _ | 4, _ | 5, _ | 6, _ | 7, _ => simp

/-- A stored pattern byte, bit by bit (61 R463). -/
theorem flipped_getLsbD (attr b : Byte) {k : Nat} (hk : k < 8) :
    (flipped attr b).getLsbD k = if attr.getLsbD 6 then b.getLsbD (7 - k) else b.getLsbD k := by
  rw [flipped]
  split
  · exact reverseByte_getLsbD b hk
  · rfl

/-- Settles O48: each fetch stores its byte through `flipped`. -/
theorem horizontalFlip : Obligations.HorizontalFlip := by
  rintro s i k hused hslot hk lo hi rfl rfl
  rw [spriteFetchLo_ppu, spriteFetchHi_ppu, spriteSlot_setSlot hslot, spriteSlot_setSlot hslot, if_pos rfl, if_pos rfl]
  simp only [if_pos hused]
  exact ⟨flipped_getLsbD _ _ hk, flipped_getLsbD _ _ hk⟩

/-! ## The multiplexer -/

/-- The pixel the priority rule chooses, before pixel 0 is forced to palette 0 (61 R471). -/
def chosenPixel (bg : BitVec 2 × BitVec 2) (spr : Option SprPixel) : BitVec 2 × BitVec 3 :=
  match spr with
  | none => (bg.1, bg.2.setWidth 3)
  | some sp => if bg.1 = 0#2 ∨ sp.behind = false then (sp.pix, sp.pal) else (bg.1, bg.2.setWidth 3)

/-- The multiplexer is the chosen pixel, with pixel 0 in palette 0 (61 R471, R472). -/
theorem muxPixel_eq (bg : BitVec 2 × BitVec 2) (spr : Option SprPixel) :
    muxPixel bg spr = if (chosenPixel bg spr).1 = 0#2 then (0#2, 0#3) else chosenPixel bg spr := by
  cases spr <;> rfl

/-- Settles O49: the multiplexer forces pixel 0 to palette 0, whose address is the first of the palette. -/
theorem pixelZeroIsUniversalBackground : Obligations.PixelZeroIsUniversalBackground := by
  intro bg spr h
  rw [muxPixel_eq] at h ⊢
  by_cases hzero : (chosenPixel bg spr).1 = 0#2
  · rw [if_pos hzero]
    exact ⟨rfl, rfl⟩
  · rw [if_neg hzero] at h
    exact absurd h hzero

/-- With no sprite pixel the background shows, its pixel 0 as the universal one (61 R471, R472). -/
theorem muxPixel_none (bg : BitVec 2 × BitVec 2) :
    muxPixel bg none = if bg.1 = 0#2 then (0#2, 0#3) else (bg.1, bg.2.setWidth 3) := muxPixel_eq bg none

/-- An opaque sprite pixel shows over a transparent background or in front (61 R471). -/
theorem muxPixel_some (bg : BitVec 2 × BitVec 2) {sp : SprPixel} (h : sp.pix ≠ 0#2) :
    muxPixel bg (some sp) = if bg.1 = 0#2 ∨ sp.behind = false then (sp.pix, sp.pal) else (bg.1, bg.2.setWidth 3) := by
  rw [muxPixel_eq, chosenPixel]
  by_cases hfront : bg.1 = 0#2 ∨ sp.behind = false
  · rw [if_pos hfront, if_neg h]
  · rw [if_neg hfront, if_neg (not_or.mp hfront).1]

/-! ## The two layers -/

/-- Two bits as a number. -/
theorem twoBits_toNat (hi lo : Bool) : (twoBits hi lo).toNat = 2 * hi.toNat + lo.toNat := by
  cases hi <;> cases lo <;> rfl

/-- The background shows where its mask bit is set and the left column is not clipped (61 R452, R469). -/
theorem bgShown_iff (p : Ppu) (x : Nat) :
    bgShown p x = true ↔ p.mask.current.getLsbD 3 = true ∧ (8 ≤ x ∨ p.mask.current.getLsbD 1 = true) := by
  simp [bgShown, Clocked.test]

/-- Sprites show where their mask bit is set and the left column is not clipped (61 R468, R469). -/
theorem sprShown_iff (p : Ppu) (x : Nat) :
    sprShown p x = true ↔ p.mask.current.getLsbD 4 = true ∧ (8 ≤ x ∨ p.mask.current.getLsbD 2 = true) := by
  simp [sprShown, Clocked.test]

/-- A hidden background is transparent (61 R452). -/
theorem bgPixel_of_hidden {p : Ppu} (h : p.mask.current.getLsbD 3 = false) (x : Nat) : bgPixel p x = (0#2, 0#2) := by
  rw [bgPixel, if_neg]
  rw [bgShown_iff, h]
  exact fun ⟨hshown, _⟩ => Bool.false_ne_true hshown

/-- Where sprites do not show there is no sprite pixel (61 R468). -/
theorem spritePixel_of_not_shown {p : Ppu} {x : Nat} (h : ¬ sprShown p x = true) : spritePixel p x = none := if_neg h

/-- With both layers hidden the universal background shows (61 R479). -/
theorem muxPixel_of_hidden {p : Ppu} (h3 : p.mask.current.getLsbD 3 = false) (h4 : p.mask.current.getLsbD 4 = false)
    (x : Nat) : muxPixel (bgPixel p x) (spritePixel p x) = (0#2, 0#3) := by
  have hspr : ¬ sprShown p x = true := by
    rw [sprShown_iff, h4]
    exact fun ⟨hshown, _⟩ => Bool.false_ne_true hshown
  rw [bgPixel_of_hidden h3, spritePixel_of_not_shown hspr]
  rfl

/-- A slot is opaque when its X counter has run out and one of its top pattern bits is set (61 R468). -/
theorem slotPixel_ne_zero_iff (sl : SprSlot) :
    slotPixel sl ≠ 0#2 ↔ sl.x = 0#8 ∧ (sl.patHi.getLsbD 7 = true ∨ sl.patLo.getLsbD 7 = true) := by
  rw [slotPixel]
  split
  · rename_i hx
    rw [ne_eq, ← BitVec.toNat_inj, twoBits_toNat]
    cases sl.patHi.getLsbD 7 <;> cases sl.patLo.getLsbD 7 <;> simp [hx]
  · simp [*]

/-- What the scan answers when it stops at slot `i` (61 R468). -/
def slotSprPixel (sl : SprSlot) (i : Nat) : SprPixel :=
  ⟨slotPixel sl, 1#1 ++ sl.attr.setWidth 2, sl.attr.getLsbD 5, i⟩

/-- The scan of no opaque slot finds nothing (61 R468). -/
theorem scanSlots_of_transparent {slots : List SprSlot} (h : ∀ sl ∈ slots, slotPixel sl = 0#2) (i : Nat) :
    scanSlots slots i = none := by
  induction slots generalizing i with
  | nil => rfl
  | cons sl rest ih =>
    obtain ⟨hsl, hrest⟩ := List.forall_mem_cons.mp h
    rw [scanSlots, if_pos hsl, ih hrest]

/-- The scan stops at the first opaque slot (61 R468). -/
theorem scanSlots_of_first {slots : List SprSlot} {k : Nat} {sl : SprSlot} (hk : slots[k]? = some sl)
    (hopaque : slotPixel sl ≠ 0#2) (hbefore : ∀ m < k, ∀ sl', slots[m]? = some sl' → slotPixel sl' = 0#2) (i : Nat) :
    scanSlots slots i = some (slotSprPixel sl (i + k)) := by
  induction slots generalizing i k with
  | nil => cases hk
  | cons head rest ih =>
    cases k with
    | zero =>
      cases hk
      rw [scanSlots, if_neg hopaque]
      rfl
    | succ k =>
      rw [scanSlots, if_pos (hbefore 0 k.succ_pos head rfl),
        ih hk (fun m hm => hbefore (m + 1) (Nat.succ_lt_succ hm)), Nat.add_right_comm]
      rfl

/-- What the scan finds is opaque (61 R468). -/
theorem scanSlots_opaque {slots : List SprSlot} {i : Nat} {sp : SprPixel} (h : scanSlots slots i = some sp) :
    sp.pix ≠ 0#2 := by
  induction slots generalizing i with
  | nil => cases h
  | cons sl rest ih =>
    rw [scanSlots] at h
    split at h
    · exact ih h
    · cases h
      assumption

/-- A sprite pixel is opaque (61 R468). -/
theorem spritePixel_opaque {p : Ppu} {x : Nat} {sp : SprPixel} (h : spritePixel p x = some sp) : sp.pix ≠ 0#2 := by
  rw [spritePixel] at h
  split at h
  · exact scanSlots_opaque h
  · cases h

/-- The slots in use, by index. -/
theorem usedSlots_getElem? {p : Ppu} (hle : p.sprCount ≤ p.sprites.length) {k : Nat} (hk : k < p.sprCount) :
    (p.sprites.take p.sprCount)[k]? = some (spriteSlot p k) := by
  rw [List.getElem?_take_of_lt hk, spriteSlot, List.getD_eq_getElem?_getD,
    List.getElem?_eq_getElem (Nat.lt_of_lt_of_le hk hle), Option.getD_some]

/-- No slot in use is opaque: there is no sprite pixel (61 R468). -/
theorem spritePixel_of_transparent {p : Ppu} (hle : p.sprCount ≤ p.sprites.length) (x : Nat)
    (h : ∀ i < p.sprCount, slotPixel (spriteSlot p i) = 0#2) : spritePixel p x = none := by
  have hused : ∀ sl ∈ p.sprites.take p.sprCount, slotPixel sl = 0#2 := by
    intro sl hsl
    obtain ⟨k, hk⟩ := List.mem_iff_getElem?.mp hsl
    obtain ⟨hlt, -⟩ := List.getElem?_eq_some_iff.mp hk
    have hlt : k < p.sprCount := Nat.lt_of_lt_of_le hlt (List.length_take_le _ _)
    rw [usedSlots_getElem? hle hlt, Option.some.injEq] at hk
    exact hk ▸ h k hlt
  rw [spritePixel, scanSlots_of_transparent hused, ite_self]

/-- The first opaque slot in use gives the sprite pixel (61 R468). -/
theorem spritePixel_of_first {p : Ppu} (hle : p.sprCount ≤ p.sprites.length) {x i : Nat} (hshown : sprShown p x = true)
    (hi : i < p.sprCount) (hopaque : slotPixel (spriteSlot p i) ≠ 0#2)
    (hbefore : ∀ k < i, slotPixel (spriteSlot p k) = 0#2) :
    spritePixel p x = some (slotSprPixel (spriteSlot p i) i) := by
  have hearlier : ∀ m < i, ∀ sl, (p.sprites.take p.sprCount)[m]? = some sl → slotPixel sl = 0#2 := by
    intro m hm sl hsl
    rw [usedSlots_getElem? hle (Nat.lt_trans hm hi), Option.some.injEq] at hsl
    exact hsl ▸ hbefore m hm
  rw [spritePixel, if_pos hshown, scanSlots_of_first (usedSlots_getElem? hle hi) hopaque hearlier, Nat.zero_add]

/-- The palette of a sprite pixel: 4 and the two low attribute bits (61 R468). -/
theorem slotSprPixel_pal_toNat (sl : SprSlot) (i : Nat) : (slotSprPixel sl i).pal.toNat = 4 + sl.attr.toNat % 4 := by
  have hlow : sl.attr.toNat % 4 < 2 ^ 2 := Nat.mod_lt _ (by decide)
  rw [slotSprPixel, BitVec.toNat_append, BitVec.toNat_setWidth]
  exact (Nat.shiftLeft_add_eq_or_of_lt hlow 1).symm

/-! ## The sprite-0 hit -/

/-- The hit condition over the sprite pixel that the scan finds, which is opaque (61 R470). -/
theorem spriteZeroHit_iff (p : Ppu) (h x : Nat) (bg : BitVec 2) : spriteZeroHit p h bg (spritePixel p x) = true ↔
    p.spr0InLine = true ∧ (∃ sp, spritePixel p x = some sp ∧ sp.slot = 0) ∧ bg ≠ 0#2 ∧
      p.mask.current.getLsbD 3 = true ∧ p.mask.current.getLsbD 4 = true ∧ 2 ≤ h ∧ h < 257 ∧ h ≠ 255 := by
  cases hs : spritePixel p x with
  | none => simp [spriteZeroHit]
  | some sp =>
    have hopaque := spritePixel_opaque hs
    simp [spriteZeroHit, Clocked.test, hopaque, and_assoc]

/-- Whether compositing stages the hit (61 R470). -/
def hitAt (p : Ppu) : Bool :=
  spriteZeroHit p p.hCount (bgPixel p (p.hCount - 1)).1 (spritePixel p (p.hCount - 1))

/-- Compositing stages the hit and changes nothing else of the PPU (61 R470, R473). -/
theorem compositeDot_ppu_eq (s : State) :
    (compositeDot s).ppu = if hitAt s.ppu then { s.ppu with status := s.ppu.status.set 6 } else s.ppu := by
  refine (ppuRead_ppu _ _).trans ?_
  rw [hitAt]
  split <;> rfl

/-! ## The emitted pixel -/

/-- The pixel compositing emits: the palette byte of the multiplexed pixel, cut to six bits (61 R473, R478). -/
def emittedPixel (s : State) : Pixel :=
  let x := s.ppu.hCount - 1
  ⟨x, s.ppu.vCount,
    ((ppuRead s (pixelAddr (muxPixel (bgPixel s.ppu x) (spritePixel s.ppu x)))).1 &&& 0x3F#8).setWidth 6⟩

/-- The mask to six bits is the cut to six bits (61 R478). -/
theorem setWidth_six_mask (b : Byte) : (b &&& 0x3F#8).setWidth 6 = b.setWidth 6 := by
  rw [BitVec.setWidth_and]
  exact BitVec.and_allOnes

/-- A pixel emitted after a PPU read, which looks at no register of the PPU (61 R478). -/
theorem emitPixel_ppuRead_out (s : State) (p : Ppu) (a : PpuAddr) (x y : Nat) :
    (emitPixel (ppuRead (s.setPpu p) a).2 ⟨x, y, (ppuRead (s.setPpu p) a).1.setWidth 6⟩).out =
      { s.out with pixels := s.out.pixels ++ [⟨x, y, (ppuRead s a).1.setWidth 6⟩] } := by
  rw [emitPixel, ppuRead_out, ppuRead_fst_congr (s := s.setPpu p) (t := s) rfl rfl, State.setPpu_out]

/-- Compositing emits one pixel and nothing else (61 R473, R478). -/
theorem compositeDot_out (s : State) :
    (compositeDot s).out = { s.out with pixels := s.out.pixels ++ [emittedPixel s] } := by
  rw [emittedPixel, setWidth_six_mask, compositeDot]
  split
  · exact emitPixel_ppuRead_out s _ _ _ _
  · exact emitPixel_ppuRead_out s s.ppu _ _ _

/-- Compositing sees the output as it was before the dot. -/
theorem atCompositing_out (j : Nat) (s : State) : (s.atCompositing j).out = s.out := by
  rw [State.atCompositing, dotS3_out, dotS2_out]
  rfl

/-- Over a dot a visible line emits the pixel of the state compositing sees, at dots 1 to 256 (61 R473, R478). -/
theorem ppuDotAt_out_eq (j : Nat) (s : State) : (ppuDotAt j s).out = { s.out with
    pixels := s.out.pixels ++ if visibleDot s.ppu then [emittedPixel (s.atCompositing j)] else [] } := by
  have hS4 : (ppuDotAt j s).out = (dotS4 (s.atCompositing j)).out := ppuDotAt_out j s
  rw [hS4, dotS4, atCompositing_visibleDot]
  split
  · rw [compositeDot_out, atCompositing_out]
  · rw [atCompositing_out, List.append_nil]

/-! ## Compositing over a whole dot -/

/-- Bit 6 of the staged Status after compositing (61 R470). -/
theorem compositeDot_hitBit (s : State) :
    (compositeDot s).ppu.status.new.getLsbD 6 = (hitAt s.ppu || s.ppu.status.new.getLsbD 6) := by
  rw [compositeDot_ppu_eq]
  cases hitAt s.ppu with
  | false => rw [if_neg Bool.false_ne_true, Bool.false_or]
  | true => rw [if_pos rfl, Clocked.set_new_getLsbD s.ppu.status (by decide), decide_eq_true rfl, Bool.or_true, Bool.true_or]

/-- The status events clear the staged hit bit on the pre-render line and set it nowhere (61 R425, R426). -/
theorem statusEvents_hitBit (p : Ppu) : (statusEvents p).status.new.getLsbD 6 =
    (p.status.new.getLsbD 6 && decide (¬ (p.vCount = 261 ∧ p.hCount = 1))) := by
  by_cases hclear : p.vCount = 261 ∧ p.hCount = 1
  · rw [statusEvents_preRender hclear, BitVec.getLsbD_and, decide_eq_false (not_not.mpr hclear)]
    rfl
  · rw [decide_eq_true hclear, Bool.and_true]
    by_cases hvblank : p.vCount = 241 ∧ p.hCount = 1
    · rw [statusEvents_vblank hvblank, BitVec.getLsbD_or]
      exact Bool.or_false _
    · rw [statusEvents_of_other (by omega)]

/-- Over a dot the staged hit bit is set by compositing and cleared by the pre-render clear (61 R426, R470). -/
theorem ppuDotAt_hitBit (j : Nat) (s : State) : (ppuDotAt j s).ppu.status.new.getLsbD 6 =
    (visibleDot s.ppu && hitAt (s.atCompositing j).ppu ||
      (s.ppu.status.new.getLsbD 6 && decide (¬ (s.ppu.vCount = 261 ∧ s.ppu.hCount = 1)))) := by
  rw [← statusEvents_hitBit, ← atCompositing_status j, ppuDotAt_statusNew_eq, dotS4, atCompositing_visibleDot]
  cases visibleDot s.ppu with
  | false => rw [if_neg Bool.false_ne_true, Bool.false_and, Bool.false_or]
  | true => rw [if_pos rfl, compositeDot_hitBit, Bool.true_and]

/-! ## The statement on compositing -/

/-- The background pixel as numbers (61 R452, R469). -/
theorem bgPixel_toNat (p : Ppu) (x : Nat) {b : Nat} (hb : b = 15 - p.x.toNat) :
    ((bgPixel p x).1.toNat, (bgPixel p x).2.toNat) =
      if p.mask.current.getLsbD 3 = true ∧ (8 ≤ x ∨ p.mask.current.getLsbD 1 = true) then
        (2 * (p.bgPatHi.getLsbD b).toNat + (p.bgPatLo.getLsbD b).toNat,
          2 * (p.bgAttHi.getLsbD b).toNat + (p.bgAttLo.getLsbD b).toNat)
      else (0, 0) := by
  rw [bgPixel, ← hb, ← if_congr (bgShown_iff p x) rfl rfl]
  split
  · rw [twoBits_toNat, twoBits_toNat]
  · rfl

/-- The pixel of an opaque slot as a number (61 R468). -/
theorem slotPixel_toNat {sl : SprSlot} (h : sl.x = 0#8) :
    (slotPixel sl).toNat = 2 * (sl.patHi.getLsbD 7).toNat + (sl.patLo.getLsbD 7).toNat := by
  rw [slotPixel, if_pos h, twoBits_toNat]

/-- Settles O50: the output and the hit bit over a dot are those of compositing on the state it sees; the sprite pixel is
the first opaque slot of the scan. -/
theorem compositedPixel : Obligations.CompositedPixel := by
  refine ⟨?_, ?_, fun p x b hb => bgPixel_toNat p x hb, ?_, fun bg sp h => ⟨muxPixel_none bg, muxPixel_some bg h⟩, ?_, ?_⟩
  · rintro j s u x rfl rfl
    have hseen := (atCompositing_effect j s).ppu
    have hmask : (s.atCompositing j).ppu.mask = s.ppu.mask := hseen.mask
    rw [ppuDotAt_out_eq, ← if_congr (visibleDot_iff s.ppu) rfl rfl]
    refine ⟨rfl, ?_, fun h3 h4 => muxPixel_of_hidden (hmask ▸ h3) (hmask ▸ h4) _⟩
    rw [emittedPixel, hseen.hCount, hseen.vCount]
    rfl
  · rintro s x rfl
    exact congrArg Outputs.pixels (compositeDot_out s)
  · intro p x opaqueAt hle hopaque
    have hslot : ∀ i, slotPixel (spriteSlot p i) ≠ 0#2 ↔ opaqueAt i := fun i =>
      (slotPixel_ne_zero_iff _).trans (hopaque i).symm
    have htransparent : ∀ i, ¬ opaqueAt i → slotPixel (spriteSlot p i) = 0#2 := fun i h => by_contra (h ∘ (hslot i).mp)
    refine ⟨fun h => ?_, fun h4 hclip i hi hop hbefore => ?_⟩
    · rcases h with hhidden | hnone
      · exact spritePixel_of_not_shown (hhidden ∘ (sprShown_iff p x).mp)
      · exact spritePixel_of_transparent hle x fun i hi => htransparent i (hnone i hi)
    · refine ⟨_, spritePixel_of_first hle ((sprShown_iff p x).mpr ⟨h4, hclip⟩) hi ((hslot i).mpr hop)
        fun k hk => htransparent k (hbefore k hk), rfl, slotPixel_toNat ((hopaque i).mp hop).1,
        slotSprPixel_pal_toNat _ _, rfl⟩
  · intro s hit hhit
    have heq : hit = hitAt s.ppu := Bool.eq_iff_iff.mpr (hhit.trans (spriteZeroHit_iff ..).symm)
    rw [compositeDot_ppu_eq, heq]
    cases hitAt s.ppu with
    | false => exact .inl ⟨rfl, rfl⟩
    | true => exact .inr ⟨rfl, rfl⟩
  · rintro j s u hit rfl hhit
    have hseen := (atCompositing_effect j s).ppu
    have hh : (s.atCompositing j).ppu.hCount = s.ppu.hCount := hseen.hCount
    have hmask : (s.atCompositing j).ppu.mask = s.ppu.mask := hseen.mask
    have heq : hit = (visibleDot s.ppu && hitAt (s.atCompositing j).ppu) := by
      rw [Bool.eq_iff_iff, hhit, Bool.and_eq_true, visibleDot_iff, hitAt, spriteZeroHit_iff, hh, hmask]
      constructor
      · rintro ⟨hv, h2, h257, h255, h⟩
        obtain ⟨hin, hspr, hbg, h3, h4⟩ := h
        exact ⟨⟨hv, by omega, by omega⟩, hin, hspr, hbg, h3, h4, h2, h257, h255⟩
      · rintro ⟨⟨hv, -, -⟩, hin, hspr, hbg, h3, h4, h2, h257, h255⟩
        exact ⟨hv, h2, h257, h255, hin, hspr, hbg, h3, h4⟩
    rw [ppuDotAt_hitBit, heq]

end Sys2Proof.Machine
end

section
/-! PROOFS. The background pipeline over a dot (spec/61_ppu.md section 4): the shift and the reload, the fetches, the V
updates. -/

namespace Sys2Proof.Machine

/-! ## Fields of a word as arithmetic -/

/-- A number under a mask of `n` ones from bit `k` up. -/
theorem and_field_eq (x k n : Nat) : x &&& (2 ^ n - 1) <<< k = x / 2 ^ k % 2 ^ n * 2 ^ k := by
  rw [← Nat.shiftLeft_eq, ← Nat.and_two_pow_sub_one_eq_mod, Nat.shiftLeft_and_distrib, ← Nat.shiftRight_eq_div_pow]
  apply Nat.eq_of_testBit_eq
  intro i
  by_cases h : k ≤ i <;> simp [Nat.testBit_shiftLeft, h]

/-- The low half of a shift register replaced (61 R446). -/
theorem loadLow_toNat (r : BitVec 16) (b : Byte) : (loadLow r b).toNat = r.toNat / 256 * 256 + b.toNat := by
  have hhigh : r.toNat &&& 0xFF00 = 2 ^ 8 * (r.toNat / 256) := by
    have := r.isLt
    exact (and_field_eq r.toNat 8 8).trans (by omega)
  have hlow : b.toNat % 2 ^ 16 = b.toNat := Nat.mod_eq_of_lt (by have := b.isLt; omega)
  rw [loadLow, BitVec.toNat_or, BitVec.toNat_and, BitVec.toNat_setWidth, hlow]
  refine (congrArg (· ||| b.toNat) hhigh).trans ?_
  rw [← Nat.two_pow_add_eq_or_of_lt b.isLt]
  omega

/-- The nametable byte's address as a number (61 R448). -/
theorem nametableAddr_toNat (v : VAddr) : (nametableAddr v).toNat = 0x2000 + v.toNat % 0x1000 := by
  have hlow : v.toNat % 2 ^ 14 &&& 0xFFF = v.toNat % 0x1000 := (Nat.and_two_pow_sub_one_eq_mod _ 12).trans (by omega)
  rw [nametableAddr, BitVec.toNat_or, BitVec.toNat_and, BitVec.toNat_setWidth]
  refine (congrArg (0x2000 ||| ·) hlow).trans ?_
  exact (Nat.two_pow_add_eq_or_of_lt (i := 13) (by omega) 1).symm

/-- The parts under two masks with no bit in common are disjoint. -/
theorem and_masks_eq_zero {w : Nat} {m n : BitVec w} (h : m &&& n = 0#w) (x y : BitVec w) :
    (x &&& m) &&& (y &&& n) = 0#w := by
  have hcomm : (x &&& m) &&& (y &&& n) = (x &&& y) &&& (m &&& n) := by ac_rfl
  rw [hcomm, h, BitVec.and_zero]

/-- The attribute byte's address as a number: the four parts share no bit (61 R449). -/
theorem attributeAddr_toNat (v : VAddr) : (attributeAddr v).toNat =
    0x23C0 + v.toNat / 1024 % 4 * 1024 + v.toNat / 128 % 8 * 8 + v.toNat / 4 % 8 := by
  have hnt : (v.setWidth 14 &&& 0x0C00#14).toNat = v.toNat / 1024 % 4 * 1024 := by
    rw [BitVec.toNat_and, BitVec.toNat_setWidth]
    exact (and_field_eq _ 10 2).trans (by omega)
  have hrow : ((v >>> 4).setWidth 14 &&& 0x38#14).toNat = v.toNat / 128 % 8 * 8 := by
    rw [BitVec.toNat_and, BitVec.toNat_setWidth, BitVec.toNat_ushiftRight, Nat.shiftRight_eq_div_pow]
    exact (and_field_eq _ 3 3).trans (by omega)
  have hcol : ((v >>> 2).setWidth 14 &&& 0x07#14).toNat = v.toNat / 4 % 8 := by
    rw [BitVec.toNat_and, BitVec.toNat_setWidth, BitVec.toNat_ushiftRight, Nat.shiftRight_eq_div_pow]
    exact (Nat.and_two_pow_sub_one_eq_mod _ 3).trans (by omega)
  have hbase (x m : PpuAddr) (h : 0x23C0#14 &&& m = 0#14) : 0x23C0#14 &&& (x &&& m) = 0#14 :=
    and_masks_eq_zero h 0x23C0#14 x
  rw [attributeAddr, toNat_or_of_disjoint, toNat_or_of_disjoint, toNat_or_of_disjoint, hnt, hrow, hcol]
  · rfl
  · exact hbase _ _ rfl
  · rw [BitVec.and_or_distrib_right, hbase _ _ rfl, and_masks_eq_zero rfl, BitVec.or_zero]
  · rw [BitVec.and_or_distrib_right, BitVec.and_or_distrib_right, hbase _ _ rfl, and_masks_eq_zero rfl,
      and_masks_eq_zero rfl, BitVec.or_zero, BitVec.or_zero]

/-- The attribute bits of a tile as a number (61 R449). -/
theorem attributeBits_toNat (v : VAddr) (a : Byte) : (attributeBits v a).toNat =
    a.toNat / (if v.getLsbD 6 then 16 else 1) / (if v.getLsbD 1 then 4 else 1) % 4 := by
  rw [attributeBits]
  cases v.getLsbD 6 <;> cases v.getLsbD 1 <;> simp [Nat.shiftRight_eq_div_pow, Nat.div_div_eq_div_mul]

/-- The address of a tile's low plane row as a number (61 R450). -/
theorem bgPatternAddr_toNat (p : Ppu) : (bgPatternAddr p).toNat =
    (if p.ctrl.current.getLsbD 4 then 0x1000 else 0) + p.nextTileId.toNat * 16 + p.v.toNat / 4096 := by
  have hrow : (p.v.extractLsb' 12 3).toNat = p.v.toNat / 4096 := by
    have := p.v.isLt
    rw [BitVec.extractLsb'_toNat, Nat.shiftRight_eq_div_pow]
    omega
  have htile := p.nextTileId.isLt
  have hv := p.v.isLt
  rw [bgPatternAddr, Clocked.test]
  cases p.ctrl.current.getLsbD 4 <;>
    simp only [BitVec.toNat_add, BitVec.toNat_mul, BitVec.toNat_setWidth, hrow, BitVec.toNat_ofNat, if_true, if_false,
      Bool.false_eq_true] <;>
    omega

/-! ## The shift and the reload -/

/-- A background shift register after the shift and the reload of dot `h` (61 R445, R446). -/
def bgRegisterNext (h : Nat) (r : BitVec 16) (low : Byte) : BitVec 16 :=
  let shifted := if bgShiftDot h then r <<< 1 else r
  if bgReloadDot h then loadLow shifted low else shifted

/-- The rule of the shift and the reload in numbers (61 R445, R446). -/
theorem bgRegisterNext_toNat (h : Nat) (r : BitVec 16) (low : Byte) :
    (bgRegisterNext h r low).toNat = bgRegisterAfter h r low := by
  have hshift : bgShiftDot h = true ↔ (2 ≤ h ∧ h ≤ 257) ∨ (322 ≤ h ∧ h ≤ 337) := by simp [bgShiftDot]
  have hreload : bgReloadDot h = true ↔ (9 ≤ h ∧ h ≤ 257 ∧ h % 8 = 1) ∨ h = 329 ∨ h = 337 := by
    simp only [bgReloadDot, Bool.or_eq_true, Bool.and_eq_true, decide_eq_true_eq, beq_iff_eq]
    omega
  have hshifted : (if bgShiftDot h then r <<< 1 else r).toNat =
      if (2 ≤ h ∧ h ≤ 257) ∨ (322 ≤ h ∧ h ≤ 337) then 2 * r.toNat % 65536 else r.toNat := by
    rw [← if_congr hshift rfl rfl]
    split
    · rw [BitVec.toNat_shiftLeft, Nat.shiftLeft_eq, Nat.mul_comm]
    · rfl
  rw [bgRegisterNext, bgRegisterAfter, ← if_congr hreload rfl rfl, ← hshifted]
  split
  · exact loadLow_toNat _ low
  · rfl

/-- The background registers after the shift and the reload (61 R445, R446). -/
def bgLoaded (p : Ppu) : Ppu :=
  { p with
    bgPatLo := bgRegisterNext p.hCount p.bgPatLo p.nextTileLo
    bgPatHi := bgRegisterNext p.hCount p.bgPatHi p.nextTileHi
    bgAttLo := bgRegisterNext p.hCount p.bgAttLo (spread (p.nextTileAttr.getLsbD 0))
    bgAttHi := bgRegisterNext p.hCount p.bgAttHi (spread (p.nextTileAttr.getLsbD 1)) }

/-- The first two stages of the background pipeline (61 R444). -/
theorem bgReloadStage_bgShiftStage (s : State) : bgReloadStage (bgShiftStage s) = s.setPpu (bgLoaded s.ppu) := by
  have hdot : (bgShiftStage s).ppu.hCount = s.ppu.hCount := by
    rw [bgShiftStage]
    split <;> rfl
  rw [bgReloadStage, hdot, bgShiftStage, bgLoaded]
  simp only [bgRegisterNext]
  cases bgShiftDot s.ppu.hCount <;> cases bgReloadDot s.ppu.hCount <;> rfl

/-! ## The fetch -/

/-- What the fetch of a dot does to the PPU, by the phase of the dot (61 R447-R451). -/
theorem bgFetch_ppu (s : State) : (bgFetch s).ppu = { s.ppu with
    nextTileId := if (s.ppu.hCount - 1) % 8 = 0 then (ppuRead s (nametableAddr s.ppu.v)).1 else s.ppu.nextTileId
    nextTileAttr := if (s.ppu.hCount - 1) % 8 = 2 then
        attributeBits s.ppu.v (ppuRead s (attributeAddr s.ppu.v)).1 else s.ppu.nextTileAttr
    nextTileLo := if (s.ppu.hCount - 1) % 8 = 4 then (ppuRead s (bgPatternAddr s.ppu)).1 else s.ppu.nextTileLo
    nextTileHi := if (s.ppu.hCount - 1) % 8 = 6 then (ppuRead s (bgPatternAddr s.ppu + 8#14)).1 else s.ppu.nextTileHi
    v := if (s.ppu.hCount - 1) % 8 = 7 then incrementCoarseX s.ppu.v else s.ppu.v } := by
  unfold bgFetch
  split
  case h_6 h0 h2 h4 h6 h7 => simp only [if_neg h0, if_neg h2, if_neg h4, if_neg h6, if_neg h7]
  all_goals
    rename_i hphase
    simp only [hphase, State.setPpu_ppu, ppuRead_ppu]
    rfl

/-- What the fetch stage does to the PPU: each latch is loaded at its phase of a fetch window (61 R447-R451). -/
theorem bgFetchStage_ppu (s : State) : (bgFetchStage s).ppu = { s.ppu with
    nextTileId := if fetchPhase s.ppu.hCount 0 then (ppuRead s (nametableAddr s.ppu.v)).1 else s.ppu.nextTileId
    nextTileAttr := if fetchPhase s.ppu.hCount 2 then
        attributeBits s.ppu.v (ppuRead s (attributeAddr s.ppu.v)).1 else s.ppu.nextTileAttr
    nextTileLo := if fetchPhase s.ppu.hCount 4 then (ppuRead s (bgPatternAddr s.ppu)).1 else s.ppu.nextTileLo
    nextTileHi := if fetchPhase s.ppu.hCount 6 then (ppuRead s (bgPatternAddr s.ppu + 8#14)).1 else s.ppu.nextTileHi
    v := if fetchPhase s.ppu.hCount 7 then incrementCoarseX s.ppu.v else s.ppu.v } := by
  have hwindow : bgFetchDot s.ppu.hCount = true ↔
      (1 ≤ s.ppu.hCount ∧ s.ppu.hCount ≤ 256) ∨ (321 ≤ s.ppu.hCount ∧ s.ppu.hCount ≤ 336) := by simp [bgFetchDot]
  rw [bgFetchStage]
  split
  · rw [bgFetch_ppu]
    simp only [fetchPhase, hwindow.mp ‹_›, true_and]
  · simp only [fetchPhase, mt hwindow.mpr ‹_›, false_and, if_false]

/-! ## The V updates -/

/-- The V update leaves everything else alone (61 R451). -/
theorem bgUpdateV_eq (p : Ppu) : bgUpdateV p = { p with v := (bgUpdateV p).v } := by
  unfold bgUpdateV
  split
  · rfl
  · split
    · rfl
    · split <;> rfl

/-- V after a dot of the pipeline (61 R440-R443, R451). -/
def vNext (p : Ppu) : VAddr :=
  if p.hCount = 256 then incrementY (incrementCoarseX p.v)
  else if fetchPhase p.hCount 7 then incrementCoarseX p.v
  else if p.hCount = 257 then copyHorizontal p.v p.t
  else if p.vCount = 261 ∧ 280 ≤ p.hCount ∧ p.hCount ≤ 304 then copyVertical p.v p.t
  else p.v

/-- The fetch of phase 7 and the V update make up the rule for V: only at dot 256 do both act (61 R451). -/
theorem bgUpdateV_v {p q : Ppu} (hh : q.hCount = p.hCount) (hl : q.vCount = p.vCount) (ht : q.t = p.t)
    (hv : q.v = if fetchPhase p.hCount 7 then incrementCoarseX p.v else p.v) : (bgUpdateV q).v = vNext p := by
  have hvertical : (preRenderLine p.vCount && decide (280 ≤ p.hCount ∧ p.hCount ≤ 304)) = true ↔
      p.vCount = 261 ∧ 280 ≤ p.hCount ∧ p.hCount ≤ 304 := by simp [preRenderLine]
  rw [bgUpdateV, hh, hl, vNext, ← if_congr hvertical rfl rfl]
  by_cases h256 : p.hCount = 256
  · have hphase : fetchPhase p.hCount 7 := by omega
    rw [if_pos hphase] at hv
    rw [if_pos h256, if_pos h256, hv]
  · rw [if_neg h256, if_neg h256]
    by_cases hphase : fetchPhase p.hCount 7
    · have h257 : p.hCount ≠ 257 := by omega
      have hnot : ¬ (preRenderLine p.vCount && decide (280 ≤ p.hCount ∧ p.hCount ≤ 304)) = true := by
        rw [hvertical]
        omega
      rw [if_pos hphase] at hv
      rw [if_pos hphase, if_neg h257, if_neg hnot]
      exact hv
    · rw [if_neg hphase] at hv
      rw [if_neg hphase, ← hv, ← ht]
      split
      · rfl
      · split <;> rfl

/-! ## The whole pipeline -/

/-- The PPU after a dot of the background pipeline (61 R444-R451). -/
def bgNext (s : State) : Ppu :=
  { bgLoaded s.ppu with
    nextTileId := if fetchPhase s.ppu.hCount 0 then (ppuRead s (nametableAddr s.ppu.v)).1 else s.ppu.nextTileId
    nextTileAttr := if fetchPhase s.ppu.hCount 2 then
        attributeBits s.ppu.v (ppuRead s (attributeAddr s.ppu.v)).1 else s.ppu.nextTileAttr
    nextTileLo := if fetchPhase s.ppu.hCount 4 then (ppuRead s (bgPatternAddr s.ppu)).1 else s.ppu.nextTileLo
    nextTileHi := if fetchPhase s.ppu.hCount 6 then (ppuRead s (bgPatternAddr s.ppu + 8#14)).1 else s.ppu.nextTileHi
    v := vNext s.ppu }

/-- The stages of the background pipeline make up its rule (61 R444). -/
theorem bgDot_ppu (s : State) : (bgDot s).ppu = bgNext s := by
  have hread : ∀ a, (ppuRead (s.setPpu (bgLoaded s.ppu)) a).1 = (ppuRead s a).1 := ppuRead_fst_congr rfl rfl
  have hfetch := bgFetchStage_ppu (s.setPpu (bgLoaded s.ppu))
  simp only [hread] at hfetch
  have hv : (bgUpdateV (bgFetchStage (s.setPpu (bgLoaded s.ppu))).ppu).v = vNext s.ppu := by
    rw [hfetch]
    exact bgUpdateV_v rfl rfl rfl rfl
  rw [bgDot, bgReloadStage_bgShiftStage, State.setPpu_ppu, bgUpdateV_eq, hv, hfetch]
  rfl

/-- The status events touch Status alone (61 R425, R426). -/
theorem statusEvents_eq (p : Ppu) : statusEvents p = { p with status := (statusEvents p).status } := by
  unfold statusEvents
  split
  · rfl
  · split <;> rfl

/-- The lines to 239 and line 261 are the render lines (61, notation). -/
theorem renderLine_iff (l : Nat) : renderLine l = true ↔ l ≤ 239 ∨ l = 261 := by
  simp [renderLine, visibleLine, preRenderLine]

/-- Over a dot of a render line with rendering enabled the background registers change by the pipeline's rule (61 R444). -/
theorem ppuDotAt_bgNext (j : Nat) {s : State} (hr : renderingEnabled s.ppu = true) (hl : renderLine s.ppu.vCount = true) :
    BgSame (bgNext s) (ppuDotAt j s).ppu := by
  have hline : (dotS1 (dotStart j s)).ppu.vCount = s.ppu.vCount := (dotS1_effect (dotStart j s)).ppu.vCount
  have hS2 := ppuDotAt_bg j s
  rw [dotS2, hline, hr, hl, Bool.and_true, if_pos rfl, bgDot_ppu, dotS1, statusEvents_eq] at hS2
  have hread (p : Ppu) : ∀ a, (ppuRead ((dotStart j s).setPpu p) a).1 = (ppuRead s a).1 := ppuRead_fst_congr rfl rfl
  simp only [bgNext, hread] at hS2
  exact ⟨hS2.v, hS2.bgPatLo, hS2.bgPatHi, hS2.bgAttLo, hS2.bgAttHi, hS2.nextTileId, hS2.nextTileAttr, hS2.nextTileLo,
    hS2.nextTileHi⟩

end Sys2Proof.Machine
end

section
/-! PROOFS. Sprite evaluation over a dot (spec/61_ppu.md section 5): which step runs at a dot, and what each step does to
the evaluation. -/

namespace Sys2Proof.Machine

/-! ## The step of a dot -/

/-- Step S5 at dot 1 of a visible line (61 R454). -/
theorem evalDot_first (m : SpriteSizeMode) (r : Bool) {p : Ppu} (h : p.hCount = 1) : evalDot m r p = evalReset p := by
  simp only [evalDot, if_pos h]

/-- Step S5 with rendering off (61 R453). -/
theorem evalDot_off (m : SpriteSizeMode) {p : Ppu} (h : p.hCount ≠ 1) : evalDot m false p = p := by
  simp only [evalDot, if_neg h, Bool.not_false, if_true]

/-- Step S5 while secondary OAM is cleared (61 R454). -/
theorem evalDot_clear (m : SpriteSizeMode) {p : Ppu} (h2 : 2 ≤ p.hCount) (h64 : p.hCount ≤ 64) :
    evalDot m true p = if p.hCount % 2 = 0 then setSecOam p (p.hCount / 2 - 1) 0xFF#8 else p := by
  have h1 : p.hCount ≠ 1 := by omega
  simp only [evalDot, if_neg h1, Bool.not_true, Bool.false_eq_true, if_false, if_pos h64]

/-- Step S5 at dot 65, the start with its read (61 R454, R456). -/
theorem evalDot_start (m : SpriteSizeMode) {p : Ppu} (h : p.hCount = 65) : evalDot m true p = evalRead (evalStart p) := by
  simp only [evalDot, h]
  rfl

/-- Step S5 at an odd dot after the start (61 R456). -/
theorem evalDot_odd (m : SpriteSizeMode) {p : Ppu} (h : 67 ≤ p.hCount) (hodd : p.hCount % 2 = 1) :
    evalDot m true p = evalRead p := by
  have h1 : p.hCount ≠ 1 := by omega
  have h64 : ¬ p.hCount ≤ 64 := by omega
  have h65 : p.hCount ≠ 65 := by omega
  simp only [evalDot, if_neg h1, Bool.not_true, Bool.false_eq_true, if_false, if_neg h64, if_neg h65, if_pos hodd]

/-- Step S5 at an even dot after the start (61 R457-R459). -/
theorem evalDot_even (m : SpriteSizeMode) {p : Ppu} (h : 66 ≤ p.hCount) (heven : p.hCount % 2 = 0) :
    evalDot m true p = evalStep m p := by
  have h1 : p.hCount ≠ 1 := by omega
  have h64 : ¬ p.hCount ≤ 64 := by omega
  have h65 : p.hCount ≠ 65 := by omega
  have hodd : ¬ p.hCount % 2 = 1 := by omega
  simp only [evalDot, if_neg h1, Bool.not_true, Bool.false_eq_true, if_false, if_neg h64, if_neg h65, if_neg hodd]

/-! ## What a step does to the evaluation -/

/-- The same fields of the evaluation are the same evaluation. -/
theorem EvalSame.evaluation_eq {p q : Ppu} (h : EvalSame p q) : q.evaluation = p.evaluation := by
  rw [Ppu.evaluation, h.evalState, h.evalN, h.evalM, h.evalFound, h.evalLatch, h.spr0Next, h.secOam]
  rfl

/-- The read of an odd dot (61 R456). -/
theorem evalRead_evaluation (p : Ppu) : (evalRead p).evaluation =
    if p.evaluation.state = .newSprite ∨ p.evaluation.state = .copySprite then
      { p.evaluation with latch := Memory.read p.oam (4 * p.evaluation.n + p.evaluation.m) }
    else p.evaluation := by
  rw [evalRead]
  split
  case h_1 h => exact (if_pos (.inl h)).symm
  case h_2 h => exact (if_pos (.inr h)).symm
  all_goals
    rename_i h
    exact (if_neg (by simp [Ppu.evaluation, h])).symm

/-- The NEW_SPRITE step, with the range test as one of sums (61 R455, R457). -/
theorem evalNewSprite_evaluation (m : SpriteSizeMode) (p : Ppu) : (evalNewSprite m p).evaluation =
    if p.evaluation.latch.toNat ≤ p.vCount ∧ p.vCount < p.evaluation.latch.toNat + spriteHeight m p then
      { p.evaluation with
        secOam := p.evaluation.secOam.set (4 * p.evaluation.found) p.evaluation.latch
        spr0 := p.evaluation.spr0 || decide (p.evaluation.n = 0), m := 1, state := .copySprite }
    else
      { p.evaluation with
        secOam := p.evaluation.secOam.set (4 * p.evaluation.found) p.evaluation.latch
        n := p.evaluation.n + 1, state := if p.evaluation.n = 63 then .done else .newSprite } := by
  have hrange : spriteInRange p.vCount p.evalLatch (spriteHeight m p) = true ↔
      p.evalLatch.toNat ≤ p.vCount ∧ p.vCount < p.evalLatch.toNat + spriteHeight m p := by
    rw [spriteInRange, decide_eq_true_eq]
    omega
  have hlast : p.evalN + 1 = 64 ↔ p.evalN = 63 := by omega
  have hzero : (if p.evalN = 0 then true else p.spr0Next) = (p.spr0Next || decide (p.evalN = 0)) := by
    by_cases h : p.evalN = 0 <;> simp [h]
  simp only [evalNewSprite, hrange, hlast, hzero]
  show _ = if p.evalLatch.toNat ≤ p.vCount ∧ p.vCount < p.evalLatch.toNat + spriteHeight m p then _ else _
  split <;> rfl

/-- The COPY_SPRITE step (61 R458). -/
theorem evalCopySprite_evaluation (p : Ppu) : (evalCopySprite p).evaluation =
    if p.evaluation.m = 3 then
      { p.evaluation with
        secOam := p.evaluation.secOam.set (4 * p.evaluation.found + 3) p.evaluation.latch
        m := 0, found := p.evaluation.found + 1, n := p.evaluation.n + 1
        state := if p.evaluation.n = 63 then .done else if p.evaluation.found = 7 then .overflow else .newSprite }
    else { p.evaluation with
      secOam := p.evaluation.secOam.set (4 * p.evaluation.found + p.evaluation.m) p.evaluation.latch
      m := p.evaluation.m + 1 } := by
  have hlast : p.evalM + 1 = 4 ↔ p.evalM = 3 := by omega
  have hend : p.evalN + 1 = 64 ↔ p.evalN = 63 := by omega
  have hfull : p.evalFound + 1 = 8 ↔ p.evalFound = 7 := by omega
  simp only [evalCopySprite, hlast, hend, hfull]
  show _ = if p.evalM = 3 then _ else _
  split
  · rename_i hm
    rw [hm]
    rfl
  · rfl

/-- The OVERFLOW step (61 R459). -/
theorem evalOverflow_evaluation (p : Ppu) : (evalOverflow p).evaluation =
    { p.evaluation with n := p.evaluation.n + 1, state := if p.evaluation.n = 63 then .done else .overflow } := by
  have hend : p.evalN + 1 = 64 ↔ p.evalN = 63 := by omega
  simp only [evalOverflow, hend]
  rfl

/-- The step of an even dot, by the state of the machine (61 R457-R459). -/
theorem evalStep_eq (m : SpriteSizeMode) (p : Ppu) :
    (p.evaluation.state = .newSprite → evalStep m p = evalNewSprite m p) ∧
    (p.evaluation.state = .copySprite → evalStep m p = evalCopySprite p) ∧
    (p.evaluation.state = .overflow → evalStep m p = evalOverflow p) ∧
    (p.evaluation.state = .done → evalStep m p = p) := by
  refine ⟨?_, ?_, ?_, ?_⟩
  all_goals
    intro (h : p.evalState = _)
    rw [evalStep, h]

/-! ## The evaluation over a dot -/

/-- The sprite height looks at the launch parameter and Ctrl (61 R455). -/
theorem spriteHeight_eq {s : State} {p : Ppu} (h : p.ctrl = s.ppu.ctrl) :
    spriteHeight s.params.spriteSize p = spriteLinesOf s := by
  rw [spriteLinesOf, ← h]
  cases s.params.spriteSize <;> simp [spriteHeight, Clocked.test]

/-- Over a dot the evaluation changes as in step S5 on a PPU that has the evaluation, the position, primary OAM and the
sprite height of the state before the dot (61 R421, R453). -/
theorem ppuDotAt_evaluation (j : Nat) (s : State) : ∃ p : Ppu, p.evaluation = s.ppu.evaluation ∧
    p.hCount = s.ppu.hCount ∧ p.vCount = s.ppu.vCount ∧ p.oam = s.ppu.oam ∧
    spriteHeight s.params.spriteSize p = spriteLinesOf s ∧
    (ppuDotAt j s).ppu.evaluation = if visibleDot s.ppu then
      (evalDot s.params.spriteSize (renderingEnabled s.ppu) p).evaluation else s.ppu.evaluation := by
  obtain ⟨u, hsame, hkept, hparams, hS5⟩ := ppuDotAt_eval j s
  have hh : u.ppu.hCount = s.ppu.hCount := hkept.hCount
  have hv : u.ppu.vCount = s.ppu.vCount := hkept.vCount
  have hctrl : u.ppu.ctrl = s.ppu.ctrl := hkept.ctrl
  refine ⟨u.ppu, hsame.evaluation_eq, hh, hv, hkept.oam, spriteHeight_eq hctrl, ?_⟩
  have hvisible : visibleDot u.ppu = visibleDot s.ppu := by rw [visibleDot, visibleDot, hh, hv]
  rw [hS5.evaluation_eq, dotS5, hvisible, hparams, ← hsame.evaluation_eq]
  split <;> rfl

end Sys2Proof.Machine
end

section
/-! PROOFS. The sprite line over a dot (spec/61_ppu.md sections 6, 7): the commit, the shifters, the slot fetches, and the
address of a slot's pattern bytes. -/

namespace Sys2Proof.Machine

/-! ## The commit -/

/-- The slot fetch of a dot, by its phase (61 R461). -/
theorem spriteFetch_eq (s : State) : spriteFetch s =
    if (s.ppu.hCount - 257) % 8 = 2 then s.setPpu (spriteFetchAttr s.ppu ((s.ppu.hCount - 257) / 8))
    else if (s.ppu.hCount - 257) % 8 = 4 then spriteFetchLo s ((s.ppu.hCount - 257) / 8)
    else if (s.ppu.hCount - 257) % 8 = 6 then spriteFetchHi s ((s.ppu.hCount - 257) / 8)
    else s := by
  unfold spriteFetch
  split
  case h_1 h => rw [if_pos h]
  case h_2 h => rw [if_neg (by omega), if_pos h]
  case h_3 h => rw [if_neg (by omega), if_neg (by omega), if_pos h]
  case h_4 h2 h4 h6 => rw [if_neg h2, if_neg h4, if_neg h6]

/-- The slot fetches leave SprCount and Spr0InLine alone (61 R461). -/
theorem spriteFetch_counts (s : State) :
    ((spriteFetch s).ppu.sprCount, (spriteFetch s).ppu.spr0InLine) = (s.ppu.sprCount, s.ppu.spr0InLine) := by
  rw [spriteFetch_eq]
  split
  · rfl
  · split
    · rw [spriteFetchLo_ppu]
      rfl
    · split
      · rw [spriteFetchHi_ppu]
        rfl
      · rfl

/-- What step S6 does to SprCount and Spr0InLine: the commit of dot 257 of a render line (61 R460). -/
theorem dotS6_counts (r : Bool) (s : State) : ((dotS6 r s).ppu.sprCount, (dotS6 r s).ppu.spr0InLine) =
    if s.ppu.hCount = 257 ∧ renderLine s.ppu.vCount = true then
      if visibleLine s.ppu.vCount && r then (s.ppu.evalFound, s.ppu.spr0Next) else (0, false)
    else (s.ppu.sprCount, s.ppu.spr0InLine) := by
  have hfetch (u : State) : ((spriteFetchStage r u).ppu.sprCount, (spriteFetchStage r u).ppu.spr0InLine) =
      (u.ppu.sprCount, u.ppu.spr0InLine) := by
    rw [spriteFetchStage]
    split
    · exact spriteFetch_counts u
    · rfl
  by_cases h257 : s.ppu.hCount = 257
  · cases hl : renderLine s.ppu.vCount with
    | false => simp [dotS6, spriteLineDots, hl]
    | true =>
      have hdots : spriteLineDots s.ppu = true := by simp [spriteLineDots, hl, h257]
      rw [dotS6, if_pos hdots, if_pos ⟨h257, rfl⟩, spriteLineDot, hfetch, spriteCommitStage, if_pos h257,
        State.setPpu_ppu, spriteCommit]
      split <;> rfl
  · rw [if_neg (fun h => h257 h.1), dotS6]
    split
    · rw [spriteLineDot, hfetch, spriteCommitStage, if_neg h257]
    · rfl

/-! ## The shifters -/

/-- One slot's shifter in numbers (61 R467). -/
theorem shiftSlot_eq (sl : SprSlot) : shiftSlot sl = if sl.x = 0#8 then
    { sl with patLo := BitVec.ofNat 8 (2 * sl.patLo.toNat), patHi := BitVec.ofNat 8 (2 * sl.patHi.toNat) }
    else { sl with x := sl.x - 1#8 } := by
  have hdouble (b : Byte) : b <<< 1 = BitVec.ofNat 8 (2 * b.toNat) := by
    apply BitVec.eq_of_toNat_eq
    rw [BitVec.toNat_shiftLeft, BitVec.toNat_ofNat, Nat.shiftLeft_eq, Nat.mul_comm]
  rw [shiftSlot, hdouble, hdouble]

/-- The shifters act on the slots below SprCount alone (61 R467). -/
theorem spriteSlot_shiftSprites {p : Ppu} {i : Nat} (hi : i < p.sprites.length) : spriteSlot (shiftSprites p) i =
    if p.sprCount ≤ i then spriteSlot p i else shiftSlot (spriteSlot p i) := by
  have hslot : p.sprites[i]? = some (spriteSlot p i) := by
    rw [spriteSlot, List.getD_eq_getElem?_getD, List.getElem?_eq_getElem hi, Option.getD_some]
  rw [spriteSlot, shiftSprites, List.getD_eq_getElem?_getD, List.getElem?_append, List.length_map, List.length_take]
  by_cases hidle : p.sprCount ≤ i
  · have hright : ¬ i < min p.sprCount p.sprites.length := by omega
    have hindex : p.sprCount + (i - min p.sprCount p.sprites.length) = i := by omega
    rw [if_neg hright, if_pos hidle, List.getElem?_drop, hindex, hslot, Option.getD_some]
  · have hleft : i < min p.sprCount p.sprites.length := by omega
    rw [if_pos hleft, if_neg hidle, List.getElem?_map, List.getElem?_take_of_lt (by omega), hslot, Option.map_some,
      Option.getD_some]

/-! ## The slot fetches -/

/-- What a dot of the slot fetches does to the slots, by the phase of the dot (61 R461-R464). -/
theorem spriteSlot_spriteFetch {s : State} {i k : Nat} (hi : i = (s.ppu.hCount - 257) / 8)
    (hlen : i < s.ppu.sprites.length) {q : PpuAddr} (hq : q = spritePatternAddr s.params.spriteSize s.ppu i) :
    spriteSlot (spriteFetch s).ppu k =
      if k ≠ i then spriteSlot s.ppu k
      else if (s.ppu.hCount - 257) % 8 = 2 then
        { spriteSlot s.ppu i with attr := secOamByte s.ppu (4 * i + 2), x := secOamByte s.ppu (4 * i + 3) }
      else if (s.ppu.hCount - 257) % 8 = 4 then
        { spriteSlot s.ppu i with
          patLo := if i < s.ppu.sprCount then flipped (spriteSlot s.ppu i).attr (ppuRead s q).1 else 0#8 }
      else if (s.ppu.hCount - 257) % 8 = 6 then
        { spriteSlot s.ppu i with
          patHi := if i < s.ppu.sprCount then flipped (spriteSlot s.ppu i).attr (ppuRead s (q + 8#14)).1 else 0#8 }
      else spriteSlot s.ppu i := by
  subst hq
  rw [spriteFetch_eq, ← hi]
  by_cases h2 : (s.ppu.hCount - 257) % 8 = 2
  · rw [if_pos h2, if_pos h2, State.setPpu_ppu, spriteFetchAttr, spriteSlot_setSlot hlen, ite_not]
  · rw [if_neg h2, if_neg h2]
    by_cases h4 : (s.ppu.hCount - 257) % 8 = 4
    · rw [if_pos h4, if_pos h4, spriteFetchLo_ppu, spriteSlot_setSlot hlen, ite_not]
    · rw [if_neg h4, if_neg h4]
      by_cases h6 : (s.ppu.hCount - 257) % 8 = 6
      · rw [if_pos h6, if_pos h6, spriteFetchHi_ppu, spriteSlot_setSlot hlen, ite_not]
      · rw [if_neg h6, if_neg h6, ite_not]
        split
        · rw [‹k = i›]
        · rfl

/-- The address of a slot's pattern bytes looks at secondary OAM, the slot, the line and Ctrl (61 R462). -/
theorem spritePatternAddr_congr {p q : Ppu} (hline : q.vCount = p.vCount) (hctrl : q.ctrl = p.ctrl)
    (hsec : q.secOam = p.secOam) (hslots : q.sprites = p.sprites) (m : SpriteSizeMode) (i : Nat) :
    spritePatternAddr m q i = spritePatternAddr m p i := by
  have hheight : spriteHeight m q = spriteHeight m p := by cases m <;> simp only [spriteHeight, hctrl]
  unfold spritePatternAddr spriteRow secOamByte spriteSlot
  rw [hheight, hline, hctrl, hsec, hslots]

/-- The slot fetch looks at the position, Ctrl, secondary OAM, the sprite line, the launch parameters, the Bus and the
cartridge (61 R461-R464). -/
theorem spriteFetch_sprites_congr {s t : State} (hh : t.ppu.hCount = s.ppu.hCount) (hv : t.ppu.vCount = s.ppu.vCount)
    (hctrl : t.ppu.ctrl = s.ppu.ctrl) (hsec : t.ppu.secOam = s.ppu.secOam) (hline : LineSame s.ppu t.ppu)
    (hparams : t.params = s.params) (hb : t.bus = s.bus) (hc : t.cart = s.cart) :
    (spriteFetch t).ppu.sprites = (spriteFetch s).ppu.sprites := by
  have haddr := spritePatternAddr_congr hv hctrl hsec hline.sprites s.params.spriteSize
  have hread := ppuRead_fst_congr hb hc
  have hslot (i : Nat) : spriteSlot t.ppu i = spriteSlot s.ppu i := by rw [spriteSlot, hline.sprites, spriteSlot]
  rw [spriteFetch_eq, spriteFetch_eq, hh]
  split
  · simp only [State.setPpu_ppu, spriteFetchAttr, setSlot, hslot, secOamByte, hsec, hline.sprites]
  · split
    · simp only [spriteFetchLo_ppu, setSlot, hslot, hparams, haddr, hread, hline.sprites, hline.sprCount]
    · split
      · simp only [spriteFetchHi_ppu, setSlot, hslot, hparams, haddr, hread, hline.sprites, hline.sprCount]
      · exact hline.sprites

/-! ## Step S6 and the slots -/

/-- Off dots 257 to 320 step S6 does nothing (61 R421). -/
theorem dotS6_of_off (r : Bool) {s : State} (h : s.ppu.hCount < 257 ∨ 320 < s.ppu.hCount) : dotS6 r s = s := by
  have hdots : ¬ (257 ≤ s.ppu.hCount ∧ s.ppu.hCount ≤ 320) := by omega
  rw [dotS6, spriteLineDots, decide_eq_false hdots, Bool.and_false, if_neg Bool.false_ne_true]

/-- At dot 257 step S6 leaves the slots alone: no fetch falls on its phase (61 R460, R461). -/
theorem dotS6_sprites_257 (r : Bool) {s : State} (h : s.ppu.hCount = 257) : (dotS6 r s).ppu.sprites = s.ppu.sprites := by
  have hcommit : (spriteCommitStage r s).ppu.hCount = 257 := by
    rw [spriteCommitStage, if_pos h]
    exact (spriteCommit_kept r s.ppu).hCount.trans h
  have hfetch : spriteFetch (spriteCommitStage r s) = spriteCommitStage r s := by
    rw [spriteFetch_eq, hcommit]
    rfl
  rw [dotS6, spriteLineDot, spriteFetchStage, hfetch, ite_self]
  split
  · exact spriteCommitStage_sprites r s
  · rfl

/-- On a visible line with rendering enabled, step S6 at dots 258 to 320 is the slot fetch (61 R461). -/
theorem dotS6_fetch {s : State} (hl : s.ppu.vCount ≤ 239) (h258 : 258 ≤ s.ppu.hCount) (h320 : s.ppu.hCount ≤ 320) :
    dotS6 true s = spriteFetch s := by
  have hvisible : visibleLine s.ppu.vCount = true := decide_eq_true hl
  have hdots : spriteLineDots s.ppu = true := by
    rw [spriteLineDots, renderLine, hvisible, Bool.true_or, Bool.true_and, decide_eq_true_eq]
    omega
  have hcommit : spriteCommitStage true s = s := if_neg (by omega)
  rw [dotS6, if_pos hdots, spriteLineDot, hcommit, spriteFetchStage, hvisible, Bool.true_and, if_pos rfl]

/-! ## The sprite line over a dot -/

/-- Over a dot SprCount and Spr0InLine change by the commit of dot 257 alone (61 R460). -/
theorem ppuDotAt_counts (j : Nat) (s : State) : ((ppuDotAt j s).ppu.sprCount, (ppuDotAt j s).ppu.spr0InLine) =
    if s.ppu.hCount = 257 ∧ renderLine s.ppu.vCount = true then
      if visibleLine s.ppu.vCount && renderingEnabled s.ppu then (s.ppu.evalFound, s.ppu.spr0Next) else (0, false)
    else (s.ppu.sprCount, s.ppu.spr0InLine) := by
  obtain ⟨w, hw, heval, hshift, hS6⟩ := ppuDotAt_line j s
  have hh : w.ppu.hCount = s.ppu.hCount := hw.ppu.hCount
  have hv : w.ppu.vCount = s.ppu.vCount := hw.ppu.vCount
  have hcounts : (w.ppu.sprCount, w.ppu.spr0InLine) = (s.ppu.sprCount, s.ppu.spr0InLine) := by
    rw [hshift.sprCount, hshift.spr0InLine]
    split <;> rfl
  rw [hS6.sprCount, hS6.spr0InLine, dotS6_counts, hh, hv, hcounts]
  by_cases h257 : s.ppu.hCount = 257
  · have hsame := heval (by omega)
    rw [hsame.evalFound, hsame.spr0Next]
  · rw [if_neg (fun h => h257 h.1), if_neg (fun h => h257 h.1)]

/-- Step S3 runs at dots 2 to 257 of a visible line with rendering enabled (61 R421). -/
theorem shiftsSprites_iff (r : Bool) (p : Ppu) :
    shiftsSprites r p = true ↔ r = true ∧ p.vCount ≤ 239 ∧ 2 ≤ p.hCount ∧ p.hCount ≤ 257 := by
  simp [shiftsSprites, visibleLine, and_assoc]

/-- Over a dot at which step S3 runs the slots shift, and nothing else happens to them (61 R467). -/
theorem ppuDotAt_sprites_shift (j : Nat) {s : State} (h : shiftsSprites (renderingEnabled s.ppu) s.ppu = true) :
    (ppuDotAt j s).ppu.sprites = (shiftSprites s.ppu).sprites := by
  obtain ⟨w, hw, -, hshift, hS6⟩ := ppuDotAt_line j s
  have hh : w.ppu.hCount = s.ppu.hCount := hw.ppu.hCount
  obtain ⟨-, -, -, h257⟩ := (shiftsSprites_iff _ _).mp h
  rw [if_pos h] at hshift
  rw [hS6.sprites, ← hshift.sprites]
  rcases Nat.lt_or_eq_of_le h257 with hlt | heq
  · rw [dotS6_of_off _ (.inl (hh ▸ hlt))]
  · exact dotS6_sprites_257 _ (hh.trans heq)

/-- Over a dot off 2 to 320 the slots rest (61 R421, R461, R467). -/
theorem ppuDotAt_sprites_of_off (j : Nat) {s : State} (h : s.ppu.hCount ≤ 1 ∨ 321 ≤ s.ppu.hCount) :
    (ppuDotAt j s).ppu.sprites = s.ppu.sprites := by
  obtain ⟨w, hw, -, hshift, hS6⟩ := ppuDotAt_line j s
  have hh : w.ppu.hCount = s.ppu.hCount := hw.ppu.hCount
  have hno : ¬ shiftsSprites (renderingEnabled s.ppu) s.ppu = true := by
    rw [shiftsSprites_iff]
    omega
  rw [if_neg hno] at hshift
  rw [hS6.sprites, dotS6_of_off _ (by omega), hshift.sprites]

/-- Over a dot of the slot fetches the slots change as by the fetch, on the state before the dot (61 R461-R464). -/
theorem ppuDotAt_sprites_fetch (j : Nat) {s : State} (hr : renderingEnabled s.ppu = true) (hl : s.ppu.vCount ≤ 239)
    (h258 : 258 ≤ s.ppu.hCount) (h320 : s.ppu.hCount ≤ 320) :
    (ppuDotAt j s).ppu.sprites = (spriteFetch s).ppu.sprites := by
  obtain ⟨w, hw, heval, hshift, hS6⟩ := ppuDotAt_line j s
  have hno : ¬ shiftsSprites (renderingEnabled s.ppu) s.ppu = true := by
    rw [shiftsSprites_iff]
    omega
  rw [if_neg hno] at hshift
  have hh : w.ppu.hCount = s.ppu.hCount := hw.ppu.hCount
  have hv : w.ppu.vCount = s.ppu.vCount := hw.ppu.vCount
  have hsec : w.ppu.secOam = s.ppu.secOam := (heval (by omega)).secOam
  have hparams : w.params = s.params := hw.params
  rw [hS6.sprites, hr, dotS6_fetch (hv ▸ hl) (hh ▸ h258) (hh ▸ h320)]
  exact spriteFetch_sprites_congr hh hv hw.ppu.ctrl hsec hshift hparams hw.bus hw.cart

/-! ## The pattern address -/

/-- The row of a sprite whose line is `y + row` (61 R462). -/
theorem spriteRow_toNat {p : Ppu} {i row : Nat} (hline : p.vCount = (secOamByte p (4 * i)).toNat + row)
    (hmax : p.vCount ≤ 261) : (spriteRow p i).toNat = row := by
  have hy := (secOamByte p (4 * i)).isLt
  rw [spriteRow, BitVec.toNat_sub, BitVec.toNat_ofNat, BitVec.toNat_setWidth]
  omega

/-- A sprite has 8 or 16 lines (61 R455). -/
theorem spriteLinesOf_eq_or (s : State) : spriteLinesOf s = 8 ∨ spriteLinesOf s = 16 := by
  unfold spriteLinesOf
  split
  · exact .inr rfl
  · exact .inl rfl

/-- A row under vertical flip (61 R462). -/
theorem flippedRow_toNat {w : Word} {row lines : Nat} {last : Word} (vf : Bool) (hrow : w.toNat = row)
    (hlast : last.toNat = lines - 1) (hlt : row < lines) :
    (if vf then last - w else w).toNat = if vf then lines - 1 - row else row := by
  have hmax := last.isLt
  cases vf with
  | false => exact hrow
  | true =>
    show (last - w).toNat = lines - 1 - row
    rw [BitVec.toNat_sub_of_le (BitVec.le_def.mpr (by omega)), hlast, hrow]

/-- The pattern address of an 8-line sprite (61 R462). -/
theorem pattern8_toNat (table : Bool) (tile : Byte) {w : Word} {r : Nat} (hr : w.toNat = r) (hlt : r < 8) :
    (((if table then 0x1000#16 else 0#16) + tile.setWidth 16 * 16#16 + w).setWidth 14).toNat =
      (if table then 0x1000 else 0) + tile.toNat * 16 + r := by
  have htile := tile.isLt
  cases table <;>
    simp only [BitVec.toNat_setWidth, BitVec.toNat_add, BitVec.toNat_mul, BitVec.toNat_ofNat, hr, if_true, if_false,
      Bool.false_eq_true] <;>
    omega

/-- The pattern address of a 16-line sprite (61 R462). -/
theorem pattern16_toNat (tile : Byte) {w : Word} {r : Nat} (hr : w.toNat = r) (hlt : r < 16) :
    (((tile.setWidth 16 &&& 1#16) * 0x1000#16
      + ((tile.setWidth 16 &&& 0xFE#16) + (if 8#16 ≤ w then 1#16 else 0#16)) * 16#16 + (w &&& 7#16)).setWidth 14).toNat =
      tile.toNat % 2 * 0x1000 + (tile.toNat / 2 * 2 + r / 8) * 16 + r % 8 := by
  have htile := tile.isLt
  have hbank : (tile.setWidth 16 &&& 1#16).toNat = tile.toNat % 2 := by
    rw [BitVec.toNat_and, BitVec.toNat_setWidth]
    exact (Nat.and_two_pow_sub_one_eq_mod _ 1).trans (by omega)
  have hpair : (tile.setWidth 16 &&& 0xFE#16).toNat = tile.toNat / 2 * 2 := by
    rw [BitVec.toNat_and, BitVec.toNat_setWidth]
    exact (and_field_eq _ 1 7).trans (by omega)
  have hhalf : (if 8#16 ≤ w then 1#16 else 0#16).toNat = r / 8 := by
    have hle : 8#16 ≤ w ↔ 8 ≤ r := by rw [BitVec.le_def, hr]; rfl
    rw [if_congr hle rfl rfl]
    split
    · show 1 = r / 8
      omega
    · show 0 = r / 8
      omega
  have hrow : (w &&& 7#16).toNat = r % 8 := by
    rw [BitVec.toNat_and, hr]
    exact Nat.and_two_pow_sub_one_eq_mod _ 3
  simp only [BitVec.toNat_setWidth, BitVec.toNat_add, BitVec.toNat_mul, hbank, hpair, hhalf, hrow, BitVec.toNat_ofNat]
  omega

end Sys2Proof.Machine
end

section
/-! PROOFS. The pipelines of a dot together: the statement on the background, the evaluation, the sprite line and the sprite
pattern address (spec/61_ppu.md sections 4 to 7). -/

namespace Sys2Proof.Machine

/-- Settles O60: over a dot the background registers are those of the pipeline, the evaluation that of step S5, the sprite
line that of steps S3 and S6; the addresses are the model's read as arithmetic. -/
theorem renderingPipelines : Obligations.RenderingPipelines := by
  refine ⟨?background, ?evaluation, ?line, ?address⟩
  case background =>
    rintro j s p t rfl rfl - hr hl
    have hbg := ppuDotAt_bgNext j hr ((renderLine_iff _).mpr hl)
    rw [hbg.bgPatLo, hbg.bgPatHi, hbg.bgAttLo, hbg.bgAttHi, hbg.nextTileId, hbg.nextTileAttr, hbg.nextTileLo,
      hbg.nextTileHi, hbg.v]
    refine ⟨bgRegisterNext_toNat .., bgRegisterNext_toNat .., bgRegisterNext_toNat .., bgRegisterNext_toNat ..,
      fun q hq => ?_, fun q hq => ?_, fun q hq => ?_, rfl⟩
    · have haddr : q = nametableAddr s.ppu.v := BitVec.eq_of_toNat_eq (hq.trans (nametableAddr_toNat _).symm)
      rw [haddr]
      rfl
    · have haddr : q = attributeAddr s.ppu.v := BitVec.eq_of_toNat_eq (hq.trans (attributeAddr_toNat _).symm)
      rw [haddr, ← attributeBits_toNat]
      exact apply_ite BitVec.toNat ..
    · have haddr : q = bgPatternAddr s.ppu := BitVec.eq_of_toNat_eq (hq.trans (bgPatternAddr_toNat _).symm)
      rw [haddr]
      exact ⟨rfl, rfl⟩
  case evaluation =>
    rintro j s h e t rfl rfl rfl
    obtain ⟨p, he, hh, hv, hoam, hlines, ht⟩ := ppuDotAt_evaluation j s
    have hvisible := visibleDot_iff s.ppu
    rw [ht, ← he]
    refine ⟨fun hrest => ?_, fun hline h1 => ?_, fun hline hr h2 h256 => ?_⟩
    · split
      · obtain ⟨hline, hfirst, hlast⟩ := hvisible.mp ‹_›
        have hoff : showsAny s.ppu = false ∧ s.ppu.hCount ≠ 1 := by
          rcases hrest with h | h | h | h
          · exact absurd hline (by omega)
          · exact absurd hfirst (by omega)
          · exact absurd hlast (by omega)
          · exact h
        rw [show renderingEnabled s.ppu = false from hoff.1, evalDot_off _ (hh ▸ hoff.2)]
      · rfl
    · rw [if_pos (hvisible.mpr (by omega)), evalDot_first _ _ (hh.trans h1)]
      rfl
    · rw [if_pos (hvisible.mpr (by omega)), show renderingEnabled s.ppu = true from hr, ← hh, ← hv, ← hoam, ← hlines]
      rw [← hh] at h2
      refine ⟨fun h64 => ?_, fun h65 => ?_, fun h67 hodd => ?_, fun h66 heven => ?_⟩
      · rw [evalDot_clear _ h2 h64]
        split <;> rfl
      · rw [evalDot_start _ h65]
        rfl
      · rw [evalDot_odd _ h67 hodd, evalRead_evaluation]
      · rw [evalDot_even _ h66 heven]
        obtain ⟨hnew, hcopy, hover, hdone⟩ := evalStep_eq s.params.spriteSize p
        refine ⟨fun hstate => ?_, fun hstate => ?_, fun hstate => ?_, fun hstate => ?_⟩
        · rw [hnew hstate, evalNewSprite_evaluation]
        · rw [hcopy hstate, evalCopySprite_evaluation]
        · rw [hover hstate, evalOverflow_evaluation]
        · rw [hdone hstate]
  case line =>
    rintro j s h p t rfl rfl rfl - hlen
    refine ⟨?_, fun ⟨hl, hr, h2, h257⟩ i hi => ?_, fun ⟨hl, hr, h258, h320⟩ i hi q hq => ?_, fun hrest => ?_⟩
    · have hcommit : (visibleLine s.ppu.vCount && renderingEnabled s.ppu) = true ↔
          s.ppu.vCount ≤ 239 ∧ showsAny s.ppu = true := by
        rw [Bool.and_eq_true, visibleLine, decide_eq_true_eq]
        rfl
      have hrender : (s.ppu.hCount = 257 ∧ renderLine s.ppu.vCount = true) ↔
          s.ppu.hCount = 257 ∧ (s.ppu.vCount ≤ 239 ∨ s.ppu.vCount = 261) := and_congr_right' (renderLine_iff _)
      rw [ppuDotAt_counts, ← if_congr hcommit rfl rfl]
      split
      · rw [if_pos (hrender.mpr ‹_›)]
      · rw [if_neg (mt hrender.mp ‹_›)]
    · have hshift := ppuDotAt_sprites_shift j ((shiftsSprites_iff (renderingEnabled s.ppu) _).mpr ⟨hr, hl, h2, h257⟩)
      rw [← shiftSlot_eq, ← spriteSlot_shiftSprites (hlen ▸ hi), spriteSlot, hshift, spriteSlot]
    · rw [spriteSlot, ppuDotAt_sprites_fetch j hr hl h258 h320, ← spriteSlot]
      by_cases hslot : i = (s.ppu.hCount - 257) / 8
      · rw [spriteSlot_spriteFetch hslot (hlen ▸ hi) hq, if_neg (not_not.mpr rfl), if_neg (not_not.mpr hslot)]
      · rw [spriteSlot_spriteFetch rfl (by omega) rfl, if_pos hslot, if_pos hslot]
    · rcases hrest with hl | hr | hoff
      · exact ppuDotAt_sprites_rest j (by rw [visibleLine, decide_eq_false (Nat.not_le.mpr hl), Bool.false_and])
      · exact ppuDotAt_sprites_rest j (by rw [show renderingEnabled s.ppu = false from hr, Bool.and_false])
      · exact ppuDotAt_sprites_of_off j hoff
  case address =>
    rintro m s i y tile row r rfl rfl rfl hmax hline hrow rfl
    have hlines := spriteHeight_eq (s := s) (p := s.ppu) rfl
    have hw := spriteRow_toNat hline hmax
    rw [spritePatternAddr, hlines]
    rcases spriteLinesOf_eq_or s with h8 | h16
    · rw [h8] at hrow
      rw [h8, if_pos rfl]
      exact pattern8_toNat _ _ (flippedRow_toNat _ hw rfl hrow) (by split <;> omega)
    · rw [h16] at hrow
      rw [h16, if_neg (show ¬ 16 = 8 by omega)]
      exact pattern16_toNat _ (flippedRow_toNat _ hw rfl hrow) (by split <;> omega)

end Sys2Proof.Machine
end

section
/-! PROOFS. The encoding (spec/30_encoding.md): decoding undoes encoding, encoding undoes decoding, and a list is refused
exactly when it ends before its instruction does. -/

namespace Sys2Proof

/-! ## Decoding, by the length of the instruction -/

theorem decode_one {op : Byte} (h : opLength op = 1) (rest : List Byte) :
    decode (op :: rest) = .ok (decodeBytes op 0 0, rest) := by
  simp only [decode, h]

theorem decode_two {op : Byte} (h : opLength op = 2) (b : Byte) (rest : List Byte) :
    decode (op :: b :: rest) = .ok (decodeBytes op b 0, rest) := by
  simp only [decode, h]

theorem decode_three {op : Byte} (h : opLength op = 3) (b c : Byte) (rest : List Byte) :
    decode (op :: b :: c :: rest) = .ok (decodeBytes op b c, rest) := by
  simp only [decode, h]

/-- An instruction whose operand is a word is read back from the word's bytes (30 R195). -/
theorem decode_word {op : Byte} {f : Word → Instr} (h : opLength op = 3) (hf : ∀ b c, decodeBytes op b c = f (wordOf b c))
    (w : Word) (rest : List Byte) : decode (op :: loByte w :: hiByte w :: rest) = .ok (f w, rest) := by
  rw [decode_three h, hf, wordOf_lo_hi]

/-- The bytes of an instruction decode to it, whatever follows them (30 R190-R196). -/
theorem decode_encode (i : Instr) (rest : List Byte) : decode (encode i ++ rest) = .ok (i, rest) := by
  cases i with
  | brk | kil02 | php | aslAcc | kil12 | clc | nopImp1A | kil22 | plp | rolAcc | kil32 | sec | nopImp3A | rti | kil42
    | pha | lsrAcc | kil52 | cli | nopImp5A | rts | kil62 | pla | rorAcc | kil72 | sei | nopImp7A | dey | txa | kil92
    | tya | txs | tay | tax | kilB2 | clv | tsx | iny | dex | kilD2 | cld | nopImpDA | inx | nop | kilF2 | sed
    | nopImpFA => exact decode_one rfl rest
  | oraIzx v | sloIzx v | nopZp004 v | oraZp0 v | aslZp0 v | sloZp0 v | oraImm v | ancImm0B v | bpl v | oraIzy v
    | sloIzy v | nopZpx14 v | oraZpx v | aslZpx v | sloZpx v | andIzx v | rlaIzx v | bitZp0 v | andZp0 v | rolZp0 v
    | rlaZp0 v | andImm v | ancImm2B v | bmi v | andIzy v | rlaIzy v | nopZpx34 v | andZpx v | rolZpx v | rlaZpx v
    | eorIzx v | sreIzx v | nopZp044 v | eorZp0 v | lsrZp0 v | sreZp0 v | eorImm v | alrImm v | bvc v | eorIzy v
    | sreIzy v | nopZpx54 v | eorZpx v | lsrZpx v | sreZpx v | adcIzx v | rraIzx v | nopZp064 v | adcZp0 v | rorZp0 v
    | rraZp0 v | adcImm v | arrImm v | bvs v | adcIzy v | rraIzy v | nopZpx74 v | adcZpx v | rorZpx v | rraZpx v
    | nopImm80 v | staIzx v | nopImm82 v | saxIzx v | styZp0 v | staZp0 v | stxZp0 v | saxZp0 v | nopImm89 v
    | xaaImm v | bcc v | staIzy v | ahxIzy v | styZpx v | staZpx v | stxZpy v | saxZpy v | ldyImm v | ldaIzx v
    | ldxImm v | laxIzx v | ldyZp0 v | ldaZp0 v | ldxZp0 v | laxZp0 v | ldaImm v | laxImm v | bcs v | ldaIzy v
    | laxIzy v | ldyZpx v | ldaZpx v | ldxZpy v | laxZpy v | cpyImm v | cmpIzx v | nopImmC2 v | dcpIzx v | cpyZp0 v
    | cmpZp0 v | decZp0 v | dcpZp0 v | cmpImm v | axsImm v | bne v | cmpIzy v | dcpIzy v | nopZpxD4 v | cmpZpx v
    | decZpx v | dcpZpx v | cpxImm v | sbcIzx v | nopImmE2 v | iscIzx v | cpxZp0 v | sbcZp0 v | incZp0 v | iscZp0 v
    | sbcImm v | sbcImmEB v | beq v | sbcIzy v | iscIzy v | nopZpxF4 v | sbcZpx v | incZpx v | iscZpx v => exact decode_two rfl v rest
  | nopAbs0C w | oraAbs w | aslAbs w | sloAbs w | oraAby w | sloAby w | nopAbx1C w | oraAbx w | aslAbx w | sloAbx w
    | jsrAbs w | bitAbs w | andAbs w | rolAbs w | rlaAbs w | andAby w | rlaAby w | nopAbx3C w | andAbx w | rolAbx w
    | rlaAbx w | jmpAbs w | eorAbs w | lsrAbs w | sreAbs w | eorAby w | sreAby w | nopAbx5C w | eorAbx w | lsrAbx w
    | sreAbx w | jmpInd w | adcAbs w | rorAbs w | rraAbs w | adcAby w | rraAby w | nopAbx7C w | adcAbx w | rorAbx w
    | rraAbx w | styAbs w | staAbs w | stxAbs w | saxAbs w | staAby w | tasAby w | shyAbx w | staAbx w | shxAby w
    | ahxAby w | ldyAbs w | ldaAbs w | ldxAbs w | laxAbs w | ldaAby w | lasAby w | ldyAbx w | ldaAbx w | ldxAby w
    | laxAby w | cpyAbs w | cmpAbs w | decAbs w | dcpAbs w | cmpAby w | dcpAby w | nopAbxDC w | cmpAbx w | decAbx w
    | dcpAbx w | cpxAbs w | sbcAbs w | incAbs w | iscAbs w | sbcAby w | iscAby w | nopAbxFC w | sbcAbx w | incAbx w
    | iscAbx w =>
    exact decode_word rfl (fun _ _ => rfl) w rest

/-- Settles O2: by the instruction's length, its bytes are an opcode byte, an opcode and an operand byte, or an opcode and
the two bytes of a word. -/
theorem decodeEncodeRoundTrip : Obligations.DecodeEncodeRoundTrip := fun i rest => ⟨rfl, decode_encode i rest⟩

/-- Settles O1: each list is the encoding of the instruction beside it. -/
theorem decodeKnownWords : Obligations.DecodeKnownWords :=
  ⟨decode_encode (.ldaImm 0x80#8) [], decode_encode (.staAbs 0x0200#16) [], decode_encode .tax [],
    decode_encode (.adcIzy 0x20#8) [], decode_encode (.bitAbs 0x2002#16) [], decode_encode (.incAbx 0x1234#16) [],
    decode_encode .aslAcc [], decode_encode (.jmpInd 0x12FF#16) [], decode_encode (.bpl 0x02#8) [],
    decode_encode .brk [], decode_encode .pha [], decode_encode .sei [], decode_encode (.sloIzx 0x10#8) [],
    decode_encode (.saxZpy 0x10#8) [], decode_encode (.axsImm 0x05#8) [], decode_encode (.nopImm80 0x7F#8) [],
    decode_encode .kil02 [], decode_encode (.xaaImm 0x01#8) []⟩

/-! ## Encoding what was decoded -/

/-- The bytes of the instruction of an opcode and two operand bytes are as many of these as the opcode's length says. -/
theorem encode_decodeBytes (op b c : Byte) : encode (decodeBytes op b c) = [op, b, c].take (opLength op) := by
  revert b c op
  refine forall_opcode fun hi hhi lo hlo => ?_
  interval_cases hi <;> interval_cases lo <;> intro b c <;> simp [encode, opLength, modeLength]

/-- The lists that begin with a whole instruction, and what they decode to (30 R190, R192). -/
theorem decode_eq_ok {bytes rest : List Byte} {i : Instr} (h : decode bytes = .ok (i, rest)) :
    ∃ op b c, i = decodeBytes op b c ∧ bytes = [op, b, c].take (opLength op) ++ rest := by
  match bytes with
  | [] => exact nomatch h
  | op :: tail =>
    rcases opLength_cases op with h1 | h2 | h3
    · rw [decode_one h1] at h
      cases h
      exact ⟨op, 0, 0, rfl, by rw [h1]; rfl⟩
    · match tail with
      | [] => simp only [decode, h2] at h; exact nomatch h
      | b :: rest' =>
        rw [decode_two h2] at h
        cases h
        exact ⟨op, b, 0, rfl, by rw [h2]; rfl⟩
    · match tail with
      | [] | [_] => simp only [decode, h3] at h; exact nomatch h
      | b :: c :: rest' =>
        rw [decode_three h3] at h
        cases h
        exact ⟨op, b, c, rfl, by rw [h3]; rfl⟩

/-- A list is refused exactly when it ends before its first instruction does (30 R192). -/
theorem decode_eq_error_iff (op : Byte) (rest : List Byte) :
    (∃ e, decode (op :: rest) = .error e) ↔ rest.length + 1 < opLength op := by
  rcases opLength_cases op with h | h | h
  · simp [decode_one h, h]
  · match rest with
    | [] => simp [decode, h]
    | b :: rest => simp [decode_two h, h]
  · match rest with
    | [] | [_] => simp [decode, h]
    | b :: c :: rest => simp [decode_three h, h]

/-- Settles O3: three bytes hold any instruction; what decodes to an instruction is its bytes and the rest; what is refused
is too short. -/
theorem encodeDecodeRoundTrip : Obligations.EncodeDecodeRoundTrip := by
  refine ⟨fun op b c rest => ?_, fun bytes rest i h => ?_, fun bytes => ?_⟩
  · rcases opLength_cases op with h | h | h
    · exact ⟨_, _, decode_one h _⟩
    · exact ⟨_, _, decode_two h b _⟩
    · exact ⟨_, _, decode_three h b c _⟩
  · obtain ⟨op, b, c, rfl, rfl⟩ := decode_eq_ok h
    rw [encode_decodeBytes]
  · cases bytes with
    | nil => exact ⟨fun _ => Nat.one_pos, fun _ => ⟨_, rfl⟩⟩
    | cons op rest => exact decode_eq_error_iff op rest

end Sys2Proof
end

section
/-! PROOFS. What every instruction does to the registers and to the rest of the machine (40 R226, R245, R246): it fetches,
reads, writes its operand or the stack at the addresses `storedAddrs` gives, and changes the registers its rule names. -/

namespace Sys2Proof.Machine

/-! ## Which flags an instruction writes -/

/-- The flags outside the mask `m` are the same. -/
def FlagsKept (m p q : Byte) : Prop := ∀ j < 8, m.getLsbD j = false → q.getLsbD j = p.getLsbD j

theorem FlagsKept.refl (m p : Byte) : FlagsKept m p p := fun _ _ _ => rfl

theorem FlagsKept.trans {m p q r : Byte} (h : FlagsKept m p q) (g : FlagsKept m q r) : FlagsKept m p r :=
  fun j hj hm => (g j hj hm).trans (h j hj hm)

/-- The same flags in the words of a mask. -/
theorem FlagsKept.and_not_eq {m p q : Byte} (h : FlagsKept m p q) : q &&& ~~~m = p &&& ~~~m := by
  refine BitVec.eq_of_getLsbD_eq fun j hj => ?_
  rw [BitVec.getLsbD_and, BitVec.getLsbD_and, BitVec.getLsbD_not]
  cases hm : m.getLsbD j with
  | true => simp
  | false => rw [h j hj hm]

theorem FlagsKept.withFlag {m p q : Byte} (h : FlagsKept m p q) {i : Nat} (hm : m.getLsbD i = true) (b : Bool) :
    FlagsKept m p (withFlag q i b) := by
  have hi : i < 8 := BitVec.lt_of_getLsbD hm
  intro j hj hmj
  have hij : i ≠ j := fun e => Bool.false_ne_true (hmj.symm.trans (e ▸ hm))
  rw [withFlag_getLsbD _ _ hi hj, if_neg hij, h j hj hmj]

theorem FlagsKept.setNZ {m p q : Byte} (h : FlagsKept m p q) (h1 : m.getLsbD 1 = true) (h7 : m.getLsbD 7 = true) (v : Byte) :
    FlagsKept m p (setNZ q v) := (h.withFlag h1 _).withFlag h7 _

theorem setNZ_kept (p v : Byte) : FlagsKept 0x82#8 p (setNZ p v) := (FlagsKept.refl _ p).setNZ rfl rfl v

theorem withFlag_kept (p : Byte) {i : Nat} (hi : i < 8) (b : Bool) : FlagsKept (1#8 <<< i) p (withFlag p i b) :=
  (FlagsKept.refl _ p).withFlag (by rw [bitMask_getLsbD hi, decide_eq_true rfl]) b

theorem adcFlags_kept (p a m : Byte) : FlagsKept 0xC3#8 p (adcFlags p a m) :=
  (((FlagsKept.refl _ p).withFlag rfl _).withFlag rfl _).setNZ rfl rfl _

theorem cmpFlags_kept (p r m : Byte) : FlagsKept 0x83#8 p (cmpFlags p r m) :=
  (((FlagsKept.refl _ p).withFlag rfl _).withFlag rfl _).withFlag rfl _

theorem bitFlags_kept (p a m : Byte) : FlagsKept 0xC2#8 p (bitFlags p a m) :=
  (((FlagsKept.refl _ p).withFlag rfl _).withFlag rfl _).withFlag rfl _

theorem shiftFlags_kept (f : ShiftFn) (p m : Byte) : FlagsKept 0x83#8 p (shiftFlags f p m) :=
  ((FlagsKept.refl _ p).withFlag rfl _).setNZ rfl rfl _

/-- A shift whose result is combined into A (44 R351-R353). -/
theorem shiftCombineFlags_kept (f : ShiftFn) (p m v : Byte) : FlagsKept 0x83#8 p (setNZ (shiftFlags f p m) v) :=
  (shiftFlags_kept f p m).setNZ rfl rfl v

/-- A shift whose result is added to A (44 R354). -/
theorem shiftAddFlags_kept (f : ShiftFn) (p m a r : Byte) : FlagsKept 0xC3#8 p (adcFlags (shiftFlags f p m) a r) :=
  (((FlagsKept.refl _ p).withFlag rfl _).setNZ rfl rfl _).trans (adcFlags_kept _ a r)

theorem ancFlags_kept (p a m : Byte) : FlagsKept 0x83#8 p (ancFlags p a m) :=
  ((FlagsKept.refl _ p).setNZ rfl rfl _).withFlag rfl _

theorem alrFlags_kept (p a m : Byte) : FlagsKept 0x83#8 p (alrFlags p a m) :=
  ((FlagsKept.refl _ p).withFlag rfl _).setNZ rfl rfl _

theorem arrFlags_kept (p a m : Byte) : FlagsKept 0xC3#8 p (arrFlags p a m) :=
  (((FlagsKept.refl _ p).setNZ rfl rfl _).withFlag rfl _).withFlag rfl _

theorem axsFlags_kept (p t m : Byte) : FlagsKept 0x83#8 p (axsFlags p t m) :=
  ((FlagsKept.refl _ p).withFlag rfl _).setNZ rfl rfl _

/-! ## Which registers an instruction writes -/

/-- The stored form of P: B0 clear and B1 set (10 R39). -/
def StoredStatus (p : Byte) : Prop := getFlag p flagB0 = false ∧ getFlag p flagB1 = true

/-- A pulled status byte has the stored form (10 R39). -/
theorem pulledP_stored (v : Byte) : StoredStatus (pulledP v) := by
  constructor <;> simp [getFlag, pulledP, flagB0, flagB1]

/-- What a piece of an instruction with opcode `op` does to the registers: only what its rule names, with P in its stored
form if it was, and none of the latches and counters of the tick (10 R35-R43). -/
structure RegisterChange (op : Byte) (c d : Cpu) : Prop where
  a      : op ∉ opcodesWritingA → d.a = c.a
  x      : op ∉ opcodesWritingX → d.x = c.x
  y      : op ∉ opcodesWritingY → d.y = c.y
  s      : op ∉ opcodesWritingS → d.s = c.s
  p      : FlagsKept (flagMask op) c.p d.p
  stored : StoredStatus c.p → StoredStatus d.p
  killed : op ∉ killOpcodes → d.isKilled = c.isKilled
  rest   : d = { c with
    a := d.a, x := d.x, y := d.y, s := d.s, p := d.p, isKilled := d.isKilled
    pc := d.pc, effAddr := d.effAddr, cyclesLeft := d.cyclesLeft }

namespace RegisterChange

variable {op : Byte}

theorem trans {c d e : Cpu} (h : RegisterChange op c d) (g : RegisterChange op d e) : RegisterChange op c e where
  a q := (g.a q).trans (h.a q)
  x q := (g.x q).trans (h.x q)
  y q := (g.y q).trans (h.y q)
  s q := (g.s q).trans (h.s q)
  p := h.p.trans g.p
  stored q := g.stored (h.stored q)
  killed q := (g.killed q).trans (h.killed q)
  rest := by rw [g.rest, h.rest]

/-- The PC, EffAddr and CyclesLeft are free. -/
theorem counters (c : Cpu) (pc ea : Word) (n : Byte) :
    RegisterChange op c { c with pc := pc, effAddr := ea, cyclesLeft := n } :=
  ⟨fun _ => rfl, fun _ => rfl, fun _ => rfl, fun _ => rfl, .refl _ _, id, fun _ => rfl, rfl⟩

theorem refl (c : Cpu) : RegisterChange op c c := counters c c.pc c.effAddr c.cyclesLeft

/-- Flags other than B0 and B1. -/
theorem flags {c : Cpu} {q : Byte} (hp : FlagsKept (flagMask op) c.p q) (hb : flagMask op &&& 0x30#8 = 0#8) :
    RegisterChange op c { c with p := q } where
  a _ := rfl
  x _ := rfl
  y _ := rfl
  s _ := rfl
  p := hp
  stored := by
    have hbit : ∀ j < 8, (0x30#8).getLsbD j = true → (flagMask op).getLsbD j = false := fun j hj h => by
      have := congrArg (·.getLsbD j) hb
      simpa [BitVec.getLsbD_and, h] using this
    intro ⟨h0, h1⟩
    exact ⟨(hp 4 (by decide) (hbit 4 (by decide) rfl)).trans h0, (hp 5 (by decide) (hbit 5 (by decide) rfl)).trans h1⟩
  killed _ := rfl
  rest := rfl

/-- All of P, in its stored form: PLP and RTI (43 R315, R325). -/
theorem pulled {c : Cpu} (v : Byte) (hp : flagMask op = 0xFF#8) : RegisterChange op c { c with p := pulledP v } where
  a _ := rfl
  x _ := rfl
  y _ := rfl
  s _ := rfl
  p j hj hm := by
    rw [hp] at hm
    have : (0xFF#8).getLsbD j = true := by interval_cases j <;> rfl
    exact absurd (hm.symm.trans this) Bool.false_ne_true
  stored _ := pulledP_stored v
  killed _ := rfl
  rest := rfl

theorem writeA (h : op ∈ opcodesWritingA) (c : Cpu) (v : Byte) : RegisterChange op c { c with a := v } :=
  ⟨absurd h, fun _ => rfl, fun _ => rfl, fun _ => rfl, .refl _ _, id, fun _ => rfl, rfl⟩

theorem writeX (h : op ∈ opcodesWritingX) (c : Cpu) (v : Byte) : RegisterChange op c { c with x := v } :=
  ⟨fun _ => rfl, absurd h, fun _ => rfl, fun _ => rfl, .refl _ _, id, fun _ => rfl, rfl⟩

theorem writeY (h : op ∈ opcodesWritingY) (c : Cpu) (v : Byte) : RegisterChange op c { c with y := v } :=
  ⟨fun _ => rfl, fun _ => rfl, absurd h, fun _ => rfl, .refl _ _, id, fun _ => rfl, rfl⟩

/-- A load of A with flags. -/
theorem loadA {c : Cpu} {v q : Byte} (h : op ∈ opcodesWritingA) (hp : FlagsKept (flagMask op) c.p q)
    (hb : flagMask op &&& 0x30#8 = 0#8) : RegisterChange op c { c with a := v, p := q } := (flags hp hb).trans (writeA h _ v)

theorem loadX {c : Cpu} {v q : Byte} (h : op ∈ opcodesWritingX) (hp : FlagsKept (flagMask op) c.p q)
    (hb : flagMask op &&& 0x30#8 = 0#8) : RegisterChange op c { c with x := v, p := q } := (flags hp hb).trans (writeX h _ v)

theorem loadY {c : Cpu} {v q : Byte} (h : op ∈ opcodesWritingY) (hp : FlagsKept (flagMask op) c.p q)
    (hb : flagMask op &&& 0x30#8 = 0#8) : RegisterChange op c { c with y := v, p := q } := (flags hp hb).trans (writeY h _ v)

theorem writeS (h : op ∈ opcodesWritingS) (c : Cpu) (v : Byte) : RegisterChange op c { c with s := v } :=
  ⟨fun _ => rfl, fun _ => rfl, fun _ => rfl, absurd h, .refl _ _, id, fun _ => rfl, rfl⟩

/-- A load of A and X with flags (44 R358). -/
theorem loadAX {c : Cpu} {v w q : Byte} (ha : op ∈ opcodesWritingA) (hx : op ∈ opcodesWritingX)
    (hp : FlagsKept (flagMask op) c.p q) (hb : flagMask op &&& 0x30#8 = 0#8) :
    RegisterChange op c { c with a := v, x := w, p := q } := (loadA ha hp hb).trans (writeX hx _ w)

/-- A load of A, X and S with flags (44 R359). -/
theorem loadAXS {c : Cpu} {v w z q : Byte} (ha : op ∈ opcodesWritingA) (hx : op ∈ opcodesWritingX)
    (hs : op ∈ opcodesWritingS) (hp : FlagsKept (flagMask op) c.p q) (hb : flagMask op &&& 0x30#8 = 0#8) :
    RegisterChange op c { c with a := v, x := w, s := z, p := q } := (loadAX ha hx hp hb).trans (writeS hs _ z)

/-- A pull of A, with flags (43 R332). -/
theorem pullA {c : Cpu} {v z q : Byte} (ha : op ∈ opcodesWritingA) (hs : op ∈ opcodesWritingS)
    (hp : FlagsKept (flagMask op) c.p q) (hb : flagMask op &&& 0x30#8 = 0#8) :
    RegisterChange op c { c with a := v, p := q, s := z } := (loadA ha hp hb).trans (writeS hs _ z)

/-- A pull of P, and of the PC with it (43 R315, R325). -/
theorem pullP {c : Cpu} {v z : Byte} {pc : Word} (hp : flagMask op = 0xFF#8) (hs : op ∈ opcodesWritingS) :
    RegisterChange op c { c with p := pulledP v, pc := pc, s := z } :=
  ((pulled v hp).trans (writeS hs _ z)).trans (counters _ pc c.effAddr c.cyclesLeft)

/-- A pull of the PC, or a push and a jump (43 R312, R313). -/
theorem stackJump {c : Cpu} {z : Byte} {pc : Word} (hs : op ∈ opcodesWritingS) :
    RegisterChange op c { c with pc := pc, s := z } := (writeS hs c z).trans (counters _ pc c.effAddr c.cyclesLeft)

theorem kill (h : op ∈ killOpcodes) (c : Cpu) : RegisterChange op c { c with isKilled := true } :=
  ⟨fun _ => rfl, fun _ => rfl, fun _ => rfl, fun _ => rfl, .refl _ _, id, absurd h, rfl⟩

end RegisterChange

end Sys2Proof.Machine
end

section
namespace Sys2Proof.Machine

/-! ## What an instruction is made of, by the addresses it writes -/

/-- A relation between states that holds across a CPU read, a change of registers, and a CPU write at an address of the
list, and across what is made of them. -/
structure WriteClosed (R : List Word → State → State → Prop) : Prop where
  trans     : ∀ {l : List Word} {s t u : State}, R l s t → R l t u → R l s u
  read      : ∀ (l : List Word) (s : State) (a : Word), R l s (memRead s a).2
  registers : ∀ (l : List Word) (s : State) (c : Cpu), R l s (s.setCpu c)
  write     : ∀ {l : List Word} {a : Word}, a ∈ l → ∀ (s : State) (v : Byte), R l s (memWrite s a v)

/-- How an instruction with opcode `op` that writes at the addresses `l` answers: `finish` of a state that `R` holds for,
with the instruction recorded, the registers its rule names changed, and 1 to 8 cycles left. -/
def Outcome (R : List Word → State → State → Prop) (op : Byte) (l : List Word) (s : State) (r : Result) : Prop :=
  ∃ u, r = finish u ∧ R l s u ∧ RegisterChange op (beginInstr op s).cpu u.cpu ∧
    1#8 ≤ u.cpu.cyclesLeft ∧ u.cpu.cyclesLeft ≤ 8#8

/-- The opcode map lists 1 to 7 cycles with a page-cross penalty, and at most 8 without (30 R196). -/
theorem cyclesOf_bounds (op : Byte) (cross : Bool) : 1#8 ≤ cyclesOf op cross ∧ cyclesOf op cross ≤ 8#8 := by
  revert cross op
  exact forall_opcode (by decide)

theorem branchCycles_bounds {op : Byte} (h : (opInfo op).cycles = 2#8) (taken : Bool) (target next : Word) :
    1#8 ≤ branchCycles op taken target next ∧ branchCycles op taken target next ≤ 8#8 := by
  rw [branchCycles, h]
  split
  · split <;> decide
  · decide

/-- The effective address is one of the addresses an opcode that stores there writes. -/
theorem ea_mem_storedAddrs {i : Instr} {op : Byte} {operand : Word} (hop : opcodeOf i = op) (ho : operandOf i = operand)
    (h : storesToEa op = true) (s : State) : (beginAndResolve op operand s).ea ∈ storedAddrs i s := by
  rw [storedAddrs, hop, if_pos h, ho]
  exact List.mem_singleton_self _

/-- What an opcode that stores nothing to its effective address writes: the stack slots of its pushes. -/
theorem storedAddrs_of_pushes {i : Instr} {op : Byte} (hop : opcodeOf i = op) (h : storesToEa op = false) (s : State) :
    storedAddrs i s = pushSlots s.cpu.s (pushCount op) := by
  rw [storedAddrs, hop, if_neg (by rw [h]; exact Bool.false_ne_true)]

theorem pushSlot_mem (sp : Byte) {n k : Nat} (hk : k < n) : stackAddr (sp - BitVec.ofNat 8 k) ∈ pushSlots sp n :=
  List.mem_map.mpr ⟨k, List.mem_range.mpr hk, rfl⟩

/-- Off A, writing a result back is a CPU write (40 R246). -/
theorem writeBack_of_ne_acc {m : Mode} (hm : m ≠ .acc) (ea : Word) (v : Byte) (t : State) :
    writeBack m ea v t = memWrite t ea v := by
  rw [writeBack]
  exact hm

namespace WriteClosed

variable {R : List Word → State → State → Prop} (H : WriteClosed R) {op : Byte} {operand : Word} {l : List Word}
  {s t u : State}
include H

theorem resolve (l : List Word) (m : Mode) (operand : Word) (s : State) : R l s (resolve m operand s).st := by
  cases m
  case ind | izx | izy => exact H.trans (H.read ..) (H.read ..)
  all_goals exact H.registers l s s.cpu

theorem readOperand (l : List Word) (m : Mode) (operand ea : Word) (s : State) : R l s (readOperand m operand ea s).2 := by
  cases m
  case imp | acc | imm => exact H.registers l s s.cpu
  all_goals exact H.read ..

theorem fetch (l : List Word) (s : State) : R l s (fetch s).st := by
  rw [Machine.fetch]
  split
  · exact H.read ..
  · exact H.trans (H.read ..) (H.read ..)
  · exact H.trans (H.trans (H.read ..) (H.read ..)) (H.read ..)

/-- Across the start of an instruction and its mode (40 R226, R234-R244). -/
theorem begun (l : List Word) (op : Byte) (operand : Word) (s : State) : R l s (beginAndResolve op operand s).st :=
  H.trans (H.trans (H.registers ..) (H.resolve l _ operand (beginInstr op s))) (H.registers ..)

/-- A push, at the stack slot of the present S (00 R14). -/
theorem push8 (h : stackAddr s.cpu.s ∈ l) (v : Byte) : R l s (push8 s v) := H.trans (H.write h s v) (H.registers ..)

/-- The end of an instruction: what follows its mode, and the load of CyclesLeft. -/
theorem outcome {n : Byte} (hu : R l (beginAndResolve op operand s).st u)
    (hc : RegisterChange op (beginAndResolve op operand s).st.cpu u.cpu) (hn : 1#8 ≤ n ∧ n ≤ 8#8) :
    Outcome R op l s (finish (u.setCycles n)) := by
  refine ⟨_, rfl, H.trans (H.trans (H.begun l op operand s) hu) (H.registers ..), ?_, hn.1, hn.2⟩
  rw [beginAndResolve_cpu] at hc
  exact ((RegisterChange.counters (beginInstr op s).cpu _ _ _).trans hc).trans (.counters u.cpu u.cpu.pc u.cpu.effAddr n)

end WriteClosed

/-- A handler of an instruction with opcode `op` that changes registers alone. -/
def RegisterHandler (op : Byte) (f : State → State) : Prop :=
  ∀ t, f t = t.setCpu (f t).cpu ∧ RegisterChange op t.cpu (f t).cpu

namespace WriteClosed

variable {R : List Word → State → State → Prop} (H : WriteClosed R) {i : Instr} {op : Byte} {operand : Word} {l : List Word}
  {s : State}
include H

theorem handler {f : State → State} (hf : RegisterHandler op f) (l : List Word) (t : State) : R l t (f t) :=
  (hf t).1 ▸ H.registers l t (f t).cpu

theorem runRead {f : Byte → State → State} (hop : opcodeOf i = op) (hf : ∀ m, RegisterHandler op (f m)) :
    Outcome R (opcodeOf i) l s (Machine.runRead op operand f s) := by
  have hr := readOperand_effect (opInfo op).mode operand (beginAndResolve op operand s).ea (beginAndResolve op operand s).st
  rw [hop]
  exact H.outcome (H.trans (H.readOperand ..) (H.handler (hf _) l _)) (hr.cpu ▸ (hf _ _).2) (cyclesOf_bounds ..)

theorem runStore {src : Cpu → Byte} (hop : opcodeOf i = op) (ho : operandOf i = operand) (hst : storesToEa op = true) :
    Outcome R (opcodeOf i) (storedAddrs i s) s (Machine.runStore op operand src s) := by
  rw [hop]
  exact H.outcome (H.write (ea_mem_storedAddrs hop ho hst s) _ _) (by rw [memWrite_cpu]; exact .refl _) (cyclesOf_bounds ..)

/-- A read-modify-write, by what its write-back does. -/
theorem runModify_of_writeBack {f : Byte → Byte → Byte} {g : Byte → Byte → State → State}
    (hw : ∀ v t, R l t (writeBack (opInfo op).mode (beginAndResolve op operand s).ea v t) ∧
      RegisterChange op t.cpu (writeBack (opInfo op).mode (beginAndResolve op operand s).ea v t).cpu)
    (hg : ∀ m r, RegisterHandler op (g m r)) : Outcome R op l s (Machine.runModify op operand f g s) := by
  have hread := H.readOperand l (opInfo op).mode operand (beginAndResolve op operand s).ea (beginAndResolve op operand s).st
  have hr := readOperand_effect (opInfo op).mode operand (beginAndResolve op operand s).ea (beginAndResolve op operand s).st
  exact H.outcome (H.trans (H.trans hread (hw _ _).1) (H.handler (hg _ _) l _))
    ((hr.cpu ▸ (hw _ _).2).trans (hg _ _ _).2) (cyclesOf_bounds ..)

/-- A read-modify-write in memory. -/
theorem runModify {f : Byte → Byte → Byte} {g : Byte → Byte → State → State} (hop : opcodeOf i = op)
    (ho : operandOf i = operand) (hst : storesToEa op = true) (hm : (opInfo op).mode ≠ .acc)
    (hg : ∀ m r, RegisterHandler op (g m r)) :
    Outcome R (opcodeOf i) (storedAddrs i s) s (Machine.runModify op operand f g s) := by
  rw [hop]
  refine H.runModify_of_writeBack (fun v t => ?_) hg
  rw [writeBack_of_ne_acc hm, memWrite_cpu]
  exact ⟨H.write (ea_mem_storedAddrs hop ho hst s) t v, .refl _⟩

/-- A shift or rotate of A. -/
theorem runModify_acc {f : Byte → Byte → Byte} {g : Byte → Byte → State → State} (hop : opcodeOf i = op)
    (hm : (opInfo op).mode = .acc) (ha : op ∈ opcodesWritingA) (hg : ∀ m r, RegisterHandler op (g m r)) :
    Outcome R (opcodeOf i) l s (Machine.runModify op operand f g s) := by
  rw [hop]
  refine H.runModify_of_writeBack (fun v t => ?_) hg
  rw [hm]
  exact ⟨H.registers l t _, .writeA ha t.cpu v⟩

theorem runJump {f : Word → State → State} (hop : opcodeOf i = op) (hf : ∀ a, RegisterHandler op (f a)) :
    Outcome R (opcodeOf i) l s (Machine.runJump op operand f s) := by
  rw [hop]
  exact H.outcome (H.handler (hf _) l _) (hf _ _).2 (cyclesOf_bounds ..)

/-- An instruction that pushes, and may jump to its effective address. -/
theorem runJump_push {f : Word → State → State} (hop : opcodeOf i = op) (hst : storesToEa op = false)
    (hf : ∀ a t, R (pushSlots t.cpu.s (pushCount op)) t (f a t) ∧ RegisterChange op t.cpu (f a t).cpu) :
    Outcome R (opcodeOf i) (storedAddrs i s) s (Machine.runJump op operand f s) := by
  obtain ⟨hr, hc⟩ := hf (beginAndResolve op operand s).ea (beginAndResolve op operand s).st
  have hs : (beginAndResolve op operand s).st.cpu.s = s.cpu.s := by
    rw [beginAndResolve_cpu]
    rfl
  rw [storedAddrs_of_pushes hop hst, ← hs, hop]
  exact H.outcome hr hc (cyclesOf_bounds ..)

/-- The implied shape is that of a jump whose handler does not look at the effective address. -/
theorem runImplied {f : State → State} (hop : opcodeOf i = op) (hf : RegisterHandler op f) :
    Outcome R (opcodeOf i) l s (Machine.runImplied op f s) :=
  H.runJump (operand := 0#16) (f := fun _ => f) hop fun _ => hf

theorem runImplied_push {f : State → State} (hop : opcodeOf i = op) (hst : storesToEa op = false)
    (hf : ∀ t, R (pushSlots t.cpu.s (pushCount op)) t (f t) ∧ RegisterChange op t.cpu (f t).cpu) :
    Outcome R (opcodeOf i) (storedAddrs i s) s (Machine.runImplied op f s) :=
  H.runJump_push (operand := 0#16) (f := fun _ => f) hop hst fun _ => hf

theorem runBranch {rel : Byte} {cond : Byte → Bool} (hop : opcodeOf i = op) (h : (opInfo op).cycles = 2#8) :
    Outcome R (opcodeOf i) l s (Machine.runBranch op rel cond s) := by
  rw [hop]
  refine H.outcome (operand := zeroPage rel) ?_ ?_ (branchCycles_bounds h ..)
  · split <;> exact H.registers ..
  · split
    · exact .counters _ _ _ _
    · exact .refl _

theorem runKill (hop : opcodeOf i = op) (hk : op ∈ killOpcodes) :
    Outcome R (opcodeOf i) l s (Machine.runKill op operand s) := by
  rw [hop]
  exact H.outcome (operand := operand) (H.registers ..) (.kill hk _) (by decide)

end WriteClosed

end Sys2Proof.Machine
end

section
namespace Sys2Proof.Machine

/-! ## Every instruction -/

/-- A handler in closed form that changes registers alone. -/
theorem RegisterHandler.of_eq {op : Byte} {f : State → State} {c : State → Cpu} (hf : ∀ t, f t = t.setCpu (c t))
    (hc : ∀ t, RegisterChange op t.cpu (c t)) : RegisterHandler op f := fun t => by
  rw [hf]
  exact ⟨rfl, hc t⟩

theorem push8_change {op : Byte} (h : op ∈ opcodesWritingS) (t : State) (v : Byte) :
    RegisterChange op t.cpu (Machine.push8 t v).cpu := by
  rw [push8_eq]
  exact .writeS h _ _

namespace WriteClosed

variable {R : List Word → State → State → Prop} (H : WriteClosed R)
include H

/-- Across the `k`-th of `n` pushes that began at `S = sp`. -/
theorem push8_nth {sp : Byte} {n k : Nat} (hk : k < n) {t : State} (hs : t.cpu.s = sp - BitVec.ofNat 8 k) (v : Byte) :
    R (pushSlots sp n) t (Machine.push8 t v) := H.push8 (hs ▸ pushSlot_mem sp hk) v

theorem push8_first (t : State) (v : Byte) {n : Nat} (hn : 0 < n) : R (pushSlots t.cpu.s n) t (Machine.push8 t v) :=
  H.push8_nth hn (BitVec.sub_zero t.cpu.s).symm v

theorem push16 (t : State) (v : Word) {n : Nat} (hn : 1 < n) : R (pushSlots t.cpu.s n) t (Machine.push16 t v) :=
  H.trans (H.push8_first t _ (Nat.zero_lt_of_lt hn)) (H.push8_nth hn (by rw [push8_eq]; rfl) _)

/-- Across a trap entry, which pushes three bytes (60 R390). -/
theorem enterException (t : State) (vec : Word) (pushed : Byte) :
    R (pushSlots t.cpu.s 3) t (Machine.enterException t vec pushed) := by
  have hs : (Machine.push16 t t.cpu.pc).cpu.s = t.cpu.s - BitVec.ofNat 8 2 := by
    rw [push16_eq]
    exact BitVec.sub_sub ..
  have hpushes := H.trans (H.push16 t t.cpu.pc (n := 3) (by decide)) (H.push8_nth (k := 2) (by decide) hs pushed)
  exact H.trans (H.trans (H.trans (H.trans hpushes (H.registers ..)) (H.read ..)) (H.read ..)) (H.registers ..)

theorem doBrk (t : State) :
    R (pushSlots t.cpu.s 3) t (Machine.doBrk t) ∧ RegisterChange 0x00#8 t.cpu (Machine.doBrk t).cpu := by
  refine ⟨H.trans (H.registers ..) (H.enterException (t.setPc (t.cpu.pc + 1#16)) _ _), ?_⟩
  have hflags : RegisterChange 0x00#8 t.cpu { t.cpu with p := withFlag t.cpu.p flagI true } :=
    .flags ((FlagsKept.refl _ _).withFlag rfl _) rfl
  rw [doBrk_eq]
  exact (hflags.trans (.writeS (by decide) _ _)).trans (.counters _ _ _ _)

theorem doJsr (ea : Word) (t : State) :
    R (pushSlots t.cpu.s 2) t (Machine.doJsr ea t) ∧ RegisterChange 0x20#8 t.cpu (Machine.doJsr ea t).cpu := by
  refine ⟨H.trans (H.push16 t _ (by decide)) (H.registers ..), ?_⟩
  rw [doJsr_eq]
  exact (RegisterChange.writeS (by decide) t.cpu (t.cpu.s - 2#8)).trans (.counters _ ea t.cpu.effAddr t.cpu.cyclesLeft)

/-- Every instruction runs in its shape, with a handler that changes the registers its rule names. -/
theorem exec_outcome (i : Instr) (s : State) : Outcome R (opcodeOf i) (storedAddrs i s) s (exec i s) := by
  cases i with
  | oraIzx _ | oraZp0 _ | oraImm _ | oraAbs _ | oraIzy _ | oraZpx _ | oraAby _ | oraAbx _ | andIzx _ | andZp0 _
    | andImm _ | andAbs _ | andIzy _ | andZpx _ | andAby _ | andAbx _ | eorIzx _ | eorZp0 _ | eorImm _
    | eorAbs _ | eorIzy _ | eorZpx _ | eorAby _ | eorAbx _ | ldaIzx _ | ldaZp0 _ | ldaImm _ | ldaAbs _
    | ldaIzy _ | ldaZpx _ | ldaAby _ | ldaAbx _ =>
    exact H.runRead rfl fun _ _ => ⟨rfl, .loadA (by decide) (setNZ_kept _ _) rfl⟩
  | ldxImm _ | ldxZp0 _ | ldxAbs _ | ldxZpy _ | ldxAby _ =>
    exact H.runRead rfl fun _ _ => ⟨rfl, .loadX (by decide) (setNZ_kept _ _) rfl⟩
  | ldyImm _ | ldyZp0 _ | ldyAbs _ | ldyZpx _ | ldyAbx _ =>
    exact H.runRead rfl fun _ _ => ⟨rfl, .loadY (by decide) (setNZ_kept _ _) rfl⟩
  | adcIzx _ | adcZp0 _ | adcImm _ | adcAbs _ | adcIzy _ | adcZpx _ | adcAby _ | adcAbx _ | sbcIzx _ | sbcZp0 _
    | sbcImm _ | sbcImmEB _ | sbcAbs _ | sbcIzy _ | sbcZpx _ | sbcAby _ | sbcAbx _ =>
    exact H.runRead rfl fun _ _ => ⟨rfl, .loadA (by decide) (adcFlags_kept _ _ _) rfl⟩
  | cpyImm _ | cmpIzx _ | cpyZp0 _ | cmpZp0 _ | cmpImm _ | cpyAbs _ | cmpAbs _ | cmpIzy _ | cmpZpx _ | cmpAby _
    | cmpAbx _ | cpxImm _ | cpxZp0 _ | cpxAbs _ =>
    exact H.runRead rfl fun _ _ => ⟨rfl, .flags (cmpFlags_kept _ _ _) rfl⟩
  | bitZp0 _ | bitAbs _ => exact H.runRead rfl fun _ _ => ⟨rfl, .flags (bitFlags_kept _ _ _) rfl⟩
  | nopZp004 _ | nopAbs0C _ | nopZpx14 _ | nopAbx1C _ | nopZpx34 _ | nopAbx3C _ | nopZp044 _ | nopZpx54 _
    | nopAbx5C _ | nopZp064 _ | nopZpx74 _ | nopAbx7C _ | nopImm80 _ | nopImm82 _ | nopImm89 _ | nopImmC2 _
    | nopZpxD4 _ | nopAbxDC _ | nopImmE2 _ | nopZpxF4 _ | nopAbxFC _ => exact H.runRead rfl fun _ _ => ⟨rfl, .refl _⟩
  | laxIzx _ | laxZp0 _ | laxImm _ | laxAbs _ | laxIzy _ | laxZpy _ | laxAby _ =>
    exact H.runRead rfl fun _ _ => ⟨rfl, .loadAX (by decide) (by decide) (setNZ_kept _ _) rfl⟩
  | lasAby _ =>
    exact H.runRead rfl fun _ _ => ⟨rfl, .loadAXS (by decide) (by decide) (by decide) (setNZ_kept _ _) rfl⟩
  | ancImm0B _ | ancImm2B _ => exact H.runRead rfl fun _ _ => ⟨rfl, .loadA (by decide) (ancFlags_kept _ _ _) rfl⟩
  | alrImm _ => exact H.runRead rfl fun _ _ => ⟨rfl, .loadA (by decide) (alrFlags_kept _ _ _) rfl⟩
  | arrImm _ => exact H.runRead rfl fun _ _ => ⟨rfl, .loadA (by decide) (arrFlags_kept _ _ _) rfl⟩
  | axsImm _ => exact H.runRead rfl fun _ _ => ⟨rfl, .loadX (by decide) (axsFlags_kept _ _ _) rfl⟩
  | staIzx _ | styZp0 _ | staZp0 _ | stxZp0 _ | staIzy _ | styZpx _ | staZpx _ | stxZpy _ =>
    exact H.runStore rfl rfl rfl
  | styAbs _ | staAbs _ | stxAbs _ | staAby _ | staAbx _ => exact H.runStore rfl (wordOf_lo_hi _) rfl
  | saxIzx _ | saxZp0 _ | saxZpy _ => exact H.runStore (src := fun c => c.a &&& c.x) rfl rfl rfl
  | saxAbs _ => exact H.runStore (src := fun c => c.a &&& c.x) rfl (wordOf_lo_hi _) rfl
  | decZp0 _ | decZpx _ | incZp0 _ | incZpx _ =>
    exact H.runModify rfl rfl rfl (by decide) fun _ _ _ => ⟨rfl, .flags (setNZ_kept _ _) rfl⟩
  | decAbs _ | decAbx _ | incAbs _ | incAbx _ =>
    exact H.runModify rfl (wordOf_lo_hi _) rfl (by decide) fun _ _ _ => ⟨rfl, .flags (setNZ_kept _ _) rfl⟩
  | aslZp0 _ | aslZpx _ | rolZp0 _ | rolZpx _ | lsrZp0 _ | lsrZpx _ | rorZp0 _ | rorZpx _ =>
    exact H.runModify rfl rfl rfl (by decide) fun _ _ _ => ⟨rfl, .flags (shiftFlags_kept _ _ _) rfl⟩
  | aslAbs _ | aslAbx _ | rolAbs _ | rolAbx _ | lsrAbs _ | lsrAbx _ | rorAbs _ | rorAbx _ =>
    exact H.runModify rfl (wordOf_lo_hi _) rfl (by decide) fun _ _ _ => ⟨rfl,
      .flags (shiftFlags_kept _ _ _) rfl⟩
  | sloIzx _ | sloZp0 _ | sloIzy _ | sloZpx _ | rlaIzx _ | rlaZp0 _ | rlaIzy _ | rlaZpx _ | sreIzx _ | sreZp0 _
    | sreIzy _ | sreZpx _ =>
    exact H.runModify rfl rfl rfl (by decide) fun _ _ _ => ⟨rfl, .loadA (by decide) (shiftCombineFlags_kept _ _ _ _) rfl⟩
  | sloAbs _ | sloAby _ | sloAbx _ | rlaAbs _ | rlaAby _ | rlaAbx _ | sreAbs _ | sreAby _ | sreAbx _ =>
    exact H.runModify rfl (wordOf_lo_hi _) rfl (by decide) fun _ _ _ => ⟨rfl,
      .loadA (by decide) (shiftCombineFlags_kept _ _ _ _) rfl⟩
  | rraIzx _ | rraZp0 _ | rraIzy _ | rraZpx _ =>
    exact H.runModify rfl rfl rfl (by decide) fun _ _ _ => ⟨rfl, .loadA (by decide) (shiftAddFlags_kept _ _ _ _ _) rfl⟩
  | rraAbs _ | rraAby _ | rraAbx _ =>
    exact H.runModify rfl (wordOf_lo_hi _) rfl (by decide) fun _ _ _ => ⟨rfl,
      .loadA (by decide) (shiftAddFlags_kept _ _ _ _ _) rfl⟩
  | dcpIzx _ | dcpZp0 _ | dcpIzy _ | dcpZpx _ =>
    exact H.runModify rfl rfl rfl (by decide) fun _ _ _ => ⟨rfl, .flags (cmpFlags_kept _ _ _) rfl⟩
  | dcpAbs _ | dcpAby _ | dcpAbx _ =>
    exact H.runModify rfl (wordOf_lo_hi _) rfl (by decide) fun _ _ _ => ⟨rfl, .flags (cmpFlags_kept _ _ _) rfl⟩
  | iscIzx _ | iscZp0 _ | iscIzy _ | iscZpx _ =>
    exact H.runModify rfl rfl rfl (by decide) fun _ _ _ => ⟨rfl, .loadA (by decide) (adcFlags_kept _ _ _) rfl⟩
  | iscAbs _ | iscAby _ | iscAbx _ =>
    exact H.runModify rfl (wordOf_lo_hi _) rfl (by decide) fun _ _ _ => ⟨rfl, .loadA (by decide) (adcFlags_kept _ _ _) rfl⟩
  | aslAcc | rolAcc | lsrAcc | rorAcc =>
    exact H.runModify_acc rfl rfl (by decide) fun _ _ _ => ⟨rfl, .flags (shiftFlags_kept _ _ _) rfl⟩
  | clc | sec | cli | sei | clv | cld | sed =>
    exact H.runImplied rfl fun _ => ⟨rfl, .flags ((FlagsKept.refl _ _).withFlag rfl _) rfl⟩
  | nopImp1A | nopImp3A | nopImp5A | nopImp7A | nopImpDA | nop | nopImpFA =>
    exact H.runImplied rfl fun _ => ⟨rfl, .refl _⟩
  | tax | tsx | dex | inx => exact H.runImplied rfl fun _ => ⟨rfl, .loadX (by decide) (setNZ_kept _ _) rfl⟩
  | dey | tay | iny => exact H.runImplied rfl fun _ => ⟨rfl, .loadY (by decide) (setNZ_kept _ _) rfl⟩
  | txa | tya => exact H.runImplied rfl fun _ => ⟨rfl, .loadA (by decide) (setNZ_kept _ _) rfl⟩
  | txs => exact H.runImplied rfl fun _ => ⟨rfl, .writeS (by decide) _ _⟩
  | pla => exact H.runImplied rfl (.of_eq doPla_eq fun _ => .pullA (by decide) (by decide) (setNZ_kept _ _) rfl)
  | plp => exact H.runImplied rfl (.of_eq doPlp_eq fun _ => .pullP rfl (by decide))
  | rts => exact H.runImplied rfl (.of_eq doRts_eq fun _ => .stackJump (by decide))
  | rti => exact H.runImplied rfl (.of_eq doRti_eq fun _ => .pullP rfl (by decide))
  | php => exact H.runImplied_push rfl rfl fun t => ⟨H.push8_first t _ Nat.one_pos, push8_change (by decide) t _⟩
  | pha => exact H.runImplied_push rfl rfl fun t => ⟨H.push8_first t _ Nat.one_pos, push8_change (by decide) t _⟩
  | brk => exact H.runImplied_push rfl rfl H.doBrk
  | jmpAbs _ | jmpInd _ => exact H.runJump rfl fun _ _ => ⟨rfl, .counters _ _ _ _⟩
  | jsrAbs _ => exact H.runJump_push rfl rfl H.doJsr
  | bpl _ => exact H.runBranch (cond := fun p => !getFlag p flagN) rfl rfl
  | bmi _ => exact H.runBranch (cond := fun p => getFlag p flagN) rfl rfl
  | bvc _ => exact H.runBranch (cond := fun p => !getFlag p flagV) rfl rfl
  | bvs _ => exact H.runBranch (cond := fun p => getFlag p flagV) rfl rfl
  | bcc _ => exact H.runBranch (cond := fun p => !getFlag p flagC) rfl rfl
  | bcs _ => exact H.runBranch (cond := fun p => getFlag p flagC) rfl rfl
  | bne _ => exact H.runBranch (cond := fun p => !getFlag p flagZ) rfl rfl
  | beq _ => exact H.runBranch (cond := fun p => getFlag p flagZ) rfl rfl
  | kil02 | kil12 | kil22 | kil32 | kil42 | kil52 | kil62 | kil72 | xaaImm _ | kil92 | ahxIzy _ | tasAby _
    | shyAbx _ | shxAby _ | ahxAby _ | kilB2 | kilD2 | kilF2 => exact H.runKill rfl (by decide)

end WriteClosed

end Sys2Proof.Machine
end

section
namespace Sys2Proof.Machine

/-! ## The frames of an instruction -/

/-- What an access can change is closed under what instructions are made of. -/
theorem accessEffect_writeClosed : WriteClosed AccessEffect where
  trans := .trans
  read := memRead_access
  registers := setCpu_access
  write h s v := (memWrite_access s _ v).mono fun _ hx => List.mem_singleton.mp hx ▸ h

theorem exec_accessEffect (i : Instr) (s : State) : Outcome AccessEffect (opcodeOf i) (storedAddrs i s) s (exec i s) :=
  accessEffect_writeClosed.exec_outcome i s

/-- What an instruction that answers did to memory and the units, and to the registers. -/
theorem exec_next {i : Instr} {s t : State} (h : exec i s = .next t) :
    AccessEffect (storedAddrs i s) s t ∧ RegisterChange (opcodeOf i) (beginInstr (opcodeOf i) s).cpu t.cpu ∧
      1#8 ≤ t.cpu.cyclesLeft ∧ t.cpu.cyclesLeft ≤ 8#8 := by
  obtain ⟨u, hu, haccess, hregs, hcycles⟩ := exec_accessEffect i s
  obtain ⟨-, rfl⟩ := finish_eq_next.mp (hu.symm.trans h)
  exact ⟨haccess, hregs, hcycles⟩

/-- No instruction leaves a ready state (20 R114). -/
theorem AccessEffect.ready {l : List Word} {s t : State} (h : AccessEffect l s t) (hs : s.Ready) : t.Ready := by
  obtain ⟨hnone, hfour⟩ := hs
  obtain ⟨-, hmapper, -, -, hmirror, -⟩ := h.launch
  refine ⟨?_, fun h4 => hfour (mirrorMode_four_congr hmapper hmirror h4)⟩
  rcases h.refusal with hsame | ⟨h4, -⟩
  · exact hsame.trans hnone
  · exact absurd h4 hfour

/-- An instruction of a ready state answers, with what `exec_next` says of it. -/
theorem exec_ready {s : State} (hs : s.Ready) (i : Instr) : ∃ t, exec i s = .next t ∧ t.Ready := by
  obtain ⟨u, hu, haccess, -⟩ := exec_accessEffect i s
  have hready := haccess.ready hs
  exact ⟨u, hu.trans (finish_of_none hready.1), hready⟩

/-- Settles O22: the outcome of an instruction is `finish` of a state that is marked refused under FOUR alone. -/
theorem everyInstructionCompletes : Obligations.EveryInstructionCompletes := by
  refine ⟨fun i s hs => ?_, fun i s hs => ?_⟩
  · obtain ⟨t, ht, hready⟩ := exec_ready hs i
    obtain ⟨-, hregs, -⟩ := exec_next ht
    have hrest {α : Type} (f : Cpu → α) := congrArg f hregs.rest
    exact ⟨t, ht, hready, hrest Cpu.opcode, hrest Cpu.instrCount, hrest Cpu.mode⟩
  · obtain ⟨u, hu, haccess, -⟩ := exec_accessEffect i s
    rcases haccess.refusal with hsame | ⟨hfour, hmark⟩
    · exact .inl ⟨u, hu.trans (finish_of_none (hsame.trans hs))⟩
    · refine .inr ⟨hfour, ?_⟩
      rw [hu, finish, hmark]

/-- Settles O23: the registers an instruction's rule names are the only ones its handler changes. -/
theorem registerFrame : Obligations.RegisterFrame := by
  intro i s t h
  obtain ⟨-, hregs, -⟩ := exec_next h
  have hrest {α : Type} (f : Cpu → α) := congrArg f hregs.rest
  exact ⟨hregs.a, hregs.x, hregs.y, hregs.s, hregs.p.and_not_eq, hregs.killed, hrest Cpu.totalCycles, hrest Cpu.phase,
    hrest Cpu.nmiLinePrev, hrest Cpu.nmiEdgeDelay, hrest Cpu.nmiPending, hrest Cpu.irqLevelDelay, hrest Cpu.irqAsserted,
    hrest Cpu.nmiDue, hrest Cpu.irqDue⟩

/-- A read from `0x8000` up does not look at PRG RAM (21 R160, R172). -/
theorem peek_prgRom_congr {s t : State} (h : t.cart = { s.cart with prgRam := t.cart.prgRam }) {a : Word}
    (ha : 0x8000#16 ≤ a) : peek t a = peek s a := by
  have h8 : 0x8000 ≤ a.toNat := ha
  rw [peek, peek, memRead_prgRom t h8, memRead_prgRom s h8, h]
  rfl

/-- Settles O24: the effect of the accesses an instruction makes, at the addresses it stores to. -/
theorem memoryFrame : Obligations.MemoryFrame := by
  intro i s t h
  obtain ⟨haccess, -⟩ := exec_next h
  obtain ⟨-, -, -, -, -, -, hrom⟩ := haccess.launch
  exact ⟨haccess.peek, haccess.stores, fun hl a ha => peek_prgRom_congr (haccess.cart hl) ha, hrom⟩

/-- Settles O25: the same effect, on the PPU, the DMA engine, the mapper and the outputs. -/
theorem unitFrame : Obligations.UnitFrame := by
  intro i s t h
  obtain ⟨haccess, -⟩ := exec_next h
  obtain ⟨hbusCycle, hnmiLine, hirqLine⟩ := haccess.lines
  obtain ⟨hparams, hmapper, hprg, hchr, hmirror, hbattery, -⟩ := haccess.launch
  exact ⟨haccess.ppu, haccess.dma, haccess.cart, haccess.out, hbusCycle, hnmiLine, hirqLine, hparams, hmapper, hprg, hchr,
    hmirror, hbattery⟩

end Sys2Proof.Machine
end

section
/-! PROOFS. Every step answers (60 R380, R393), and what no step changes (00 R8, 21 R164, 70 R520). -/

namespace Sys2Proof.Machine

/-! ## Progress -/

/-- The result is a next state, and that state is ready. -/
def Answers (r : Result) : Prop := ∃ t, r = .next t ∧ t.Ready

theorem Answers.next {s : State} (h : s.Ready) : Answers (.next s) := ⟨s, rfl, h⟩

theorem Answers.andThen {r : Result} {f : State → Result} (h : Answers r) (hf : ∀ t, t.Ready → Answers (f t)) :
    Answers (andThen r f) := by
  obtain ⟨t, rfl, ht⟩ := h
  exact hf t ht

/-- The dispatch answers: an interrupt sequence, or the fetched instruction (40 R226, R227). -/
theorem dispatch_answers {s : State} (hs : s.Ready) : Answers (dispatch s) := by
  cases hn : s.cpu.nmiDue with
  | true => exact ⟨_, dispatch_nmi_next hs hn, (nmiSequence_effect s).ready hs⟩
  | false =>
    cases hi : s.cpu.irqDue with
    | true => exact ⟨_, dispatch_irq_next hs hn hi, (irqSequence_effect s).ready hs⟩
    | false =>
      rw [dispatch, hn, hi]
      exact exec_ready ((fetch_effect s).isReady hs) (fetch s).instr

theorem dispatchIfDue_answers {s : State} (hs : s.Ready) : Answers (dispatchIfDue s) := by
  rw [dispatchIfDue]
  split
  · exact dispatch_answers hs
  · exact .next hs

theorem actingTick_answers {s : State} (hs : s.Ready) : Answers (actingTick s) := by
  rw [actingTick]
  split
  · exact .next hs
  · exact (dispatchIfDue_answers (s := detectInterrupts s) hs).andThen fun _ ht => .next ht

theorem cpuTick_answers {s : State} (hs : s.Ready) : Answers (cpuTick s) := by
  rw [cpuTick]
  split
  · exact .next hs
  · exact actingTick_answers hs

theorem cpuPart_answers {s : State} (hs : s.Ready) : Answers (cpuPart s) := by
  by_cases hd : s.bus.dmaState = .running
  · rw [cpuPart_running hd]
    exact .next hs
  · rw [cpuPart_not_running hd]
    exact (cpuTick_answers hs).andThen fun _ => cpuTick_answers

/-- The DMA step, the dots and the cycle count answer. -/
theorem afterCpu_answers {s : State} (hs : s.Ready) : Answers (afterCpu s) := by
  obtain ⟨hnone, hfour⟩ := hs
  obtain ⟨u, hu, heffect, hrefusal⟩ := afterCpu_effect s
  have hready : u.refusal = none := by
    rcases hrefusal with hsame | ⟨h4, -⟩
    · exact hsame.trans hnone
    · exact absurd h4 hfour
  exact ⟨u, hu.trans (finish_of_none hready), hready, heffect.cart ▸ hfour⟩

theorem step_answers {s : State} (hs : s.Ready) : Answers (step s) := by
  rw [step_eq_cpuPart hs.1]
  exact (cpuPart_answers (s := sampleInputs s) hs).andThen fun _ => afterCpu_answers

/-- Any number of steps answers. -/
theorem runSteps_answers (n : Nat) : ∀ {s : State}, s.Ready → Answers (runSteps n s) := by
  induction n with
  | zero => exact .next
  | succ n ih => exact fun hs => (step_answers hs).andThen fun _ => ih

/-- Settles O58: one step answers a ready state, whatever the CPU, the DMA engine and the PPU do in it; induction on the
number of steps does the rest. -/
theorem everyStepAnswers : Obligations.EveryStepAnswers := fun _ hs => ⟨step_answers hs, fun n => runSteps_answers n hs⟩

/-! ## The cartridge, the parameters and the cycle count -/

/-- What only the launch sets, and the counters and lines only the system cycle moves. -/
structure LaunchKept (s t : State) : Prop where
  rom       : t.cart.rom = s.cart.rom
  mapper    : t.cart.mapper = s.cart.mapper
  prgBanks  : t.cart.prgBanks = s.cart.prgBanks
  chrBanks  : t.cart.chrBanks = s.cart.chrBanks
  mirror    : t.cart.mirror = s.cart.mirror
  battery   : t.cart.battery = s.cart.battery
  params    : t.params = s.params
  busCycle  : t.bus.busCycle = s.bus.busCycle
  irqLine   : t.bus.irqLine = s.bus.irqLine

theorem LaunchKept.trans {s t u : State} (h : LaunchKept s t) (g : LaunchKept t u) : LaunchKept s u :=
  ⟨g.rom.trans h.rom, g.mapper.trans h.mapper, g.prgBanks.trans h.prgBanks, g.chrBanks.trans h.chrBanks,
    g.mirror.trans h.mirror, g.battery.trans h.battery, g.params.trans h.params, g.busCycle.trans h.busCycle,
    g.irqLine.trans h.irqLine⟩

theorem LaunchKept.of_eq {s t : State} (hc : t.cart = s.cart) (hp : t.params = s.params)
    (hk : t.bus.busCycle = s.bus.busCycle) (hi : t.bus.irqLine = s.bus.irqLine) : LaunchKept s t :=
  ⟨congrArg Cart.rom hc, congrArg Cart.mapper hc, congrArg Cart.prgBanks hc, congrArg Cart.chrBanks hc,
    congrArg Cart.mirror hc, congrArg Cart.battery hc, hp, hk, hi⟩

/-- No access of the CPU reaches them (20 R126, R127). -/
theorem launchKept_accessClosed : AccessClosed LaunchKept where
  trans := .trans
  read h := .of_eq h.cart h.params (congrArg _ h.bus) (congrArg _ h.bus)
  write s a v := by
    have h := memWrite_access s a v
    obtain ⟨hparams, hmapper, hprg, hchr, hmirror, hbattery, hrom⟩ := h.launch
    obtain ⟨hbusCycle, -, hirqLine⟩ := h.lines
    exact ⟨hrom, hmapper, hprg, hchr, hmirror, hbattery, hparams, hbusCycle, hirqLine⟩
  registers h := .of_eq h.cart h.params (by rw [h.bus]) (by rw [h.bus])

/-- Settles O57: the CPU's part keeps them, the rest of the cycle leaves the cartridge and counts the cycle, and the IRQ
line is the one sampled at its start. -/
theorem stepKeepsCartridge : Obligations.StepKeepsCartridge := by
  intro s t h
  rw [step_eq_cpuPart (refusal_none_of_step h)] at h
  obtain ⟨u, hu, h⟩ := andThen_eq_next.mp h
  have hkept := launchKept_accessClosed.cpuPart hu
  obtain ⟨hafter, -⟩ := afterCpu_next h
  rw [hafter.cart, hafter.params, hafter.busCycle, hafter.irqLine]
  exact ⟨hkept.rom, hkept.mapper, hkept.prgBanks, hkept.chrBanks, hkept.mirror, hkept.battery, hkept.params,
    congrArg (· + 1#64) hkept.busCycle, hkept.irqLine⟩

end Sys2Proof.Machine
end

section
/-! PROOFS. The invariant of the machine (10 R39, R46, R52, R54-R62): every access of the CPU keeps it on the PPU, the Bus
and the cartridge. -/

namespace Sys2Proof.Machine

/-! ## The Bus and the cartridge under a write -/

/-- A single-page mirroring names page 0 or 1 (21 R164, R173). -/
theorem page_lt_of_mirrorMode_single {c : Cart} {p : Nat} (h : mirrorMode c = .single p) : p < 2 := by
  rw [mirrorMode] at h
  split at h
  · split at h <;> cases h
  · split at h <;> cases h <;> decide

/-- A nametable address names a byte of VRAM (20 R111). -/
theorem vramIndex_lt {c : Cart} {a : PpuAddr} {i : Nat} (h : vramIndex c a = some i) : i < 0x800 := by
  obtain ⟨page, hpage, rfl⟩ := Option.map_eq_some_iff.mp h
  have hlt : page < 2 := by
    unfold nametablePage at hpage
    split at hpage
    · cases hpage
      omega
    · cases hpage
      omega
    · next hsingle =>
      cases hpage
      exact page_lt_of_mirrorMode_single hsingle
    · cases hpage
  omega

/-- A palette address names one of the 32 bytes that are not aliases (20 R115). -/
theorem paletteIndex_bounds (a : PpuAddr) : paletteIndex a < 0x20 ∧
    (paletteIndex a ≠ 0x10 ∧ paletteIndex a ≠ 0x14 ∧ paletteIndex a ≠ 0x18 ∧ paletteIndex a ≠ 0x1C) := by
  rw [paletteIndex]
  split <;> omega

/-- A write of RAM keeps the Bus's invariant (20 R103). -/
theorem Bus.Inv.writeRam {b : Bus} (h : b.Inv) (a : Word) (v : Byte) :
    Bus.Inv { b with ram := Memory.write b.ram (ramIndex a) v } := by
  obtain ⟨hwf, hwithin, hrest⟩ := h
  have hi : ramIndex a < 0x800 := by
    rw [ramIndex_eq]
    exact Nat.mod_lt _ (by decide)
  exact ⟨Memory.write_wf _ v hwf, Memory.write_within v hi hwithin, hrest⟩

/-- A PPU write keeps the Bus's invariant: each index is in its store, and no palette index is an alias (20 R109-R115). -/
theorem Bus.Inv.ppuWrite {s : State} (h : s.bus.Inv) (a : PpuAddr) (v : Byte) : (ppuWrite s a v).bus.Inv := by
  obtain ⟨hram, hramIn, hvram, hvramIn, hpal, hpalIn, hpalAlias, hpat, hpatIn, hdma⟩ := h
  rw [Machine.ppuWrite]
  split
  · exact ⟨hram, hramIn, hvram, hvramIn, hpal, hpalIn, hpalAlias, hpat, hpatIn, hdma⟩
  · split
    · next ha =>
      exact ⟨hram, hramIn, hvram, hvramIn, hpal, hpalIn, hpalAlias, Memory.write_wf _ v hpat,
        Memory.write_within v ha hpatIn, hdma⟩
    · split
      · split
        · next hi =>
          exact ⟨hram, hramIn, Memory.write_wf _ v hvram, Memory.write_within v (vramIndex_lt hi) hvramIn, hpal, hpalIn,
            hpalAlias, hpat, hpatIn, hdma⟩
        · exact ⟨hram, hramIn, hvram, hvramIn, hpal, hpalIn, hpalAlias, hpat, hpatIn, hdma⟩
      · obtain ⟨hlt, halias⟩ := paletteIndex_bounds a
        refine ⟨hram, hramIn, hvram, hvramIn, Memory.write_wf _ v hpal, Memory.write_within v hlt hpalIn, fun c hc => ?_,
          hpat, hpatIn, hdma⟩
        rcases Memory.mem_write hc with rfl | hc
        · exact halias
        · exact hpalAlias c hc

/-- The trigger starts a transfer at the start of a page (20 R117). -/
theorem Bus.Inv.dmaTrigger {b : Bus} (h : b.Inv) (v : Byte) : Bus.Inv (dmaTrigger b v) := by
  obtain ⟨hram, hramIn, hvram, hvramIn, hpal, hpalIn, hpalAlias, hpat, hpatIn, -⟩ := h
  refine ⟨hram, hramIn, hvram, hvramIn, hpal, hpalIn, hpalAlias, hpat, hpatIn, Nat.zero_le _, fun _ => Nat.zero_lt_succ _, ?_⟩
  exact BitVec.extractLsb'_append_eq_right

/-- The marker bit stays in MMC1's shift register until the fifth write (21 R170). -/
theorem mmc1ShiftIn_ne_zero : ∀ sh : BitVec 5, sh ≠ 0#5 → sh.getLsbD 0 = false → ∀ v, mmc1ShiftIn sh v ≠ 0#5 := by
  have hshift : ∀ sh : BitVec 5, sh ≠ 0#5 → sh.getLsbD 0 = false → ∀ b : Bool,
      (sh >>> 1) ||| (if b then 0x10#5 else 0#5) ≠ 0#5 := by decide
  exact fun sh h0 hbit v => hshift sh h0 hbit (v.getLsbD 0)

/-- MMC1's serial port keeps the cartridge's invariant (21 R170). -/
theorem Cart.Inv.mmc1Serial {c : Cart} (h : c.Inv) (a : Word) (v : Byte) : (mmc1Serial c a v).Inv := by
  obtain ⟨hrom, hprg, hprgIn, hbanks, hshift⟩ := h
  obtain ⟨-, hb, -, -, -, hr, hp⟩ := mmc1Serial_header c a v
  have hnew : (Machine.mmc1Serial c a v).shift ≠ 0#5 := by
    rw [Machine.mmc1Serial]
    have hfresh : 0x10#5 ≠ 0#5 := by decide
    split
    · exact hfresh
    · split
      · exact hfresh
      · next hbit => exact mmc1ShiftIn_ne_zero c.shift hshift (Bool.not_eq_true _ ▸ hbit) v
  exact ⟨hr ▸ hrom, hp ▸ hprg, hp ▸ hprgIn, hb ▸ hbanks, hnew⟩

/-- A write the mapper claims keeps the cartridge's invariant (21 R161, R170, R177). -/
theorem Cart.Inv.mapperWriteCpu {c d : Cart} (h : c.Inv) {a : Word} {v : Byte} (hd : mapperWriteCpu c a v = some d) :
    d.Inv := by
  rw [Machine.mapperWriteCpu] at hd
  split at hd
  · cases hd
  · next h6 =>
    split at hd
    · next h8 =>
      obtain ⟨hrom, hprg, hprgIn, hrest⟩ := h
      cases hd
      have hi : prgRamIndex a < 0x2000 := by
        rw [word_lt_iff (by decide)] at h6 h8
        rw [prgRamIndex_eq (Nat.not_lt.mp h6)]
        omega
      exact ⟨hrom, Memory.write_wf _ v hprg, Memory.write_within v hi hprgIn, hrest⟩
    · split at hd
      · cases hd
        exact h
      · cases hd
        exact h.mmc1Serial a v

/-! ## The PPU under an access -/

/-- The clear of a Status bit sets none (10 R33). -/
theorem Ppu.StatusInv.clear {p q : Ppu} (h : p.StatusInv) (b : Nat) (hq : q.status = p.status.clear b) : q.StatusInv := by
  obtain ⟨hc, hn⟩ := h
  rw [Ppu.StatusInv, hq]
  refine ⟨hc, ?_⟩
  rw [Clocked.clear, BitVec.and_assoc, BitVec.and_comm _ 0x3F#8, ← BitVec.and_assoc, hn, BitVec.zero_and]

/-- A CPU read keeps the PPU's invariant: of what it reads only Status changes (61 R431). -/
theorem Ppu.Inv.of_read {s t : State} (h : ReadEffect s t) (hs : s.ppu.Inv) : t.ppu.Inv := by
  obtain ⟨hstatus, hposition, hsprite, hoam, hoamIn⟩ := hs
  have hst : t.ppu.StatusInv := by
    rcases h.status with heq | hclear
    · rwa [Ppu.StatusInv, heq]
    · exact hstatus.clear 7 hclear
  refine ⟨hst, ?_⟩
  rw [h.ppu]
  exact ⟨hposition, hsprite, hoam, hoamIn⟩

theorem Ppu.Inv.oamDataWrite {p : Ppu} (h : p.Inv) (v : Byte) : (oamDataWrite p v).Inv := by
  obtain ⟨hstatus, hposition, hsprite, hoam, hoamIn⟩ := h
  exact ⟨hstatus, hposition, hsprite, Memory.write_wf _ v hoam, Memory.write_within v p.oamAddr.isLt hoamIn⟩

/-- A register write keeps the PPU's invariant: of what it reads only OAM changes (61 R428). -/
theorem Ppu.Inv.ppuCpuWrite {s : State} (h : s.ppu.Inv) (r : BitVec 3) (v : Byte) : (ppuCpuWrite s r v).ppu.Inv := by
  have hkeep := h
  obtain ⟨hstatus, hposition, hsprite, hoam, hoamIn⟩ := hkeep
  unfold Machine.ppuCpuWrite scrollWrite addrWrite
  split
  case h_5 => exact h.oamDataWrite v
  case h_6 | h_7 => split <;> exact ⟨hstatus, hposition, hsprite, hoam, hoamIn⟩
  case h_8 =>
    rw [dataWrite, State.setPpu_ppu, ppuWrite_ppu]
    exact ⟨hstatus, hposition, hsprite, hoam, hoamIn⟩
  all_goals exact ⟨hstatus, hposition, hsprite, hoam, hoamIn⟩

/-- A register write keeps the Bus's invariant: only `0x2007` reaches it (61 R428, R436). -/
theorem Bus.Inv.ppuCpuWrite {s : State} (h : s.bus.Inv) (r : BitVec 3) (v : Byte) : (ppuCpuWrite s r v).bus.Inv := by
  unfold Machine.ppuCpuWrite
  split
  case h_8 => exact h.ppuWrite s.ppu.vAddr v
  all_goals exact h

/-! ## The units under an access -/

/-- The invariant of all but the CPU. -/
def State.UnitsInv (s : State) : Prop := s.ppu.Inv ∧ s.bus.Inv ∧ s.cart.Inv

theorem State.UnitsInv.of_read {s t : State} (h : ReadEffect s t) (hs : s.UnitsInv) : t.UnitsInv := by
  obtain ⟨hppu, hbus, hcart⟩ := hs
  exact ⟨hppu.of_read h, h.bus ▸ hbus, h.cart ▸ hcart⟩

/-- A CPU write keeps the invariant of the units (20 R102). -/
theorem State.UnitsInv.memWrite {s : State} (hs : s.UnitsInv) (a : Word) (v : Byte) : (memWrite s a v).UnitsInv := by
  obtain ⟨hppu, hbus, hcart⟩ := hs
  rw [Machine.memWrite]
  split
  · next hclaim => exact ⟨hppu, hbus, hcart.mapperWriteCpu hclaim⟩
  · split
    · exact ⟨hppu, hbus.writeRam a v, hcart⟩
    · split
      · exact ⟨hppu.ppuCpuWrite _ v, hbus.ppuCpuWrite _ v, (ppuCpuWrite_cart s _ v).symm ▸ hcart⟩
      · split
        · split
          · exact ⟨hppu, hbus.dmaTrigger v, hcart⟩
          · exact ⟨hppu, hbus, hcart⟩
        · exact ⟨hppu, hbus, hcart⟩

/-- What instructions are made of keeps the invariant of the units. -/
theorem unitsInv_writeClosed : WriteClosed fun _ s t => s.UnitsInv → t.UnitsInv where
  trans h g hs := g (h hs)
  read _ s a := .of_read (memRead_effect s a)
  registers _ _ _ hs := hs
  write _ _ v hs := hs.memWrite _ v

end Sys2Proof.Machine
end

section
/-! PROOFS. The PPU's invariant over a dot (10 R46, R52, R54-R56): Status, the position, the evaluation, the slots; and
when the clocked registers commit (61 R420, R427). -/

namespace Sys2Proof.Machine

/-! ## The commit and the NMI output -/

/-- The commit of a dot, at phase 1 alone (61 R420). -/
theorem ppuClockRegisters_eq (p : Ppu) : ppuClockRegisters p = if p.ppuPhase = 1 then p.commit else p := rfl

/-- The phase of dot `j` is in force when the dot's commit is called (70 R520). -/
theorem advanceDot_dotBody_ppuPhase (r : Bool) (j : Nat) (s : State) :
    (advanceDot r (dotBody (renderingEnabled s.ppu) (dotStart j s)).ppu).ppuPhase = j := by
  rw [advanceDot_kept]
  exact (dotBodyAt_effect j s).ppu.ppuPhase

/-- Over a dot a clocked register that the dot leaves alone commits at phase 1 (61 R420). -/
theorem ppuDotAt_mask_ctrl (j : Nat) (s : State) :
    (ppuDotAt j s).ppu.mask = (if j = 1 then s.ppu.mask.clock else s.ppu.mask) ∧
    (ppuDotAt j s).ppu.ctrl = (if j = 1 then s.ppu.ctrl.clock else s.ppu.ctrl) := by
  have hphase := advanceDot_dotBody_ppuPhase (renderingEnabled s.ppu) j s
  have hkept := (dotBodyAt_effect j s).ppu
  have hmask : (dotBody (renderingEnabled s.ppu) (dotStart j s)).ppu.mask = s.ppu.mask := hkept.mask
  have hctrl : (dotBody (renderingEnabled s.ppu) (dotStart j s)).ppu.ctrl = s.ppu.ctrl := hkept.ctrl
  rw [ppuDotAt_eq, dotFinish_ppu, ppuClockRegisters_eq, hphase, advanceDot_kept]
  split
  · exact ⟨congrArg Clocked.clock hmask, congrArg Clocked.clock hctrl⟩
  · exact ⟨hmask, hctrl⟩

/-- The visible half of Status takes what the dot leaves staged at phase 1 (61 R420). -/
theorem ppuDotAt_status_current (j : Nat) (s : State) : (ppuDotAt j s).ppu.status.current =
    if j = 1 then (ppuDotAt j s).ppu.status.new else s.ppu.status.current := by
  have hphase := advanceDot_dotBody_ppuPhase (renderingEnabled s.ppu) j s
  have hcurrent : (dotBody (renderingEnabled s.ppu) (dotStart j s)).ppu.status.current = s.ppu.status.current :=
    (dotBodyAt_effect j s).ppu.current
  rw [ppuDotAt_eq, dotFinish_ppu, ppuClockRegisters_eq, hphase]
  split
  · rfl
  · rw [advanceDot_kept]
    exact hcurrent

/-- Settles O40: the phase in force at the commit is the dot's, and the NMI output reads the halves the body left alone. -/
theorem registerCommitAndNmiLine : Obligations.RegisterCommitAndNmiLine := by
  intro j s
  obtain ⟨hmask, hctrl⟩ := ppuDotAt_mask_ctrl j s
  have hkept := (dotBodyAt_effect j s).ppu
  refine ⟨?_, ?_, ppuDotAt_status_current j s, ?_⟩
  · rw [hmask]
    split <;> rfl
  · rw [hctrl]
    split <;> rfl
  · rw [ppuDotAt_eq, dotFinish_bus, nmiLevel, Clocked.test, Clocked.test, hkept.current, hkept.ctrl]
    rfl

/-! ## Status and the position -/

/-- Over a dot Status bits 5:0 stay 0 (61 R425, R426, R470). -/
theorem Ppu.StatusInv.ppuDotAt (j : Nat) {s : State} (h : s.ppu.StatusInv) : (ppuDotAt j s).ppu.StatusInv := by
  obtain ⟨hcurrent, hnew⟩ := h
  obtain ⟨-, hvblank, hpre, hother⟩ := dotPositionAndStatus j s
  have hnew' : (Machine.ppuDotAt j s).ppu.status.new &&& 0x3F#8 = 0#8 := by
    have hset (b : Byte) (hb : b &&& 0x3F#8 = 0#8) : (s.ppu.status.new ||| b) &&& 0x3F#8 = 0#8 := by
      rw [BitVec.and_or_distrib_right, hnew, hb, BitVec.or_zero]
    by_cases h1 : s.ppu.vCount = 241 ∧ s.ppu.hCount = 1
    · rw [hvblank h1]
      exact hset _ rfl
    · by_cases h2 : s.ppu.vCount = 261 ∧ s.ppu.hCount = 1
      · rw [hpre h2, BitVec.and_assoc, BitVec.and_comm 0x1F#8, ← BitVec.and_assoc, hnew, BitVec.zero_and]
      · rcases hother (by omega) with h | h
        · rw [h, hnew]
        · rw [h]
          exact hset _ rfl
  refine ⟨?_, hnew'⟩
  rw [ppuDotAt_status_current]
  split
  · exact hnew'
  · exact hcurrent

/-- Over a dot the position stays in its ranges (61 R422). -/
theorem Ppu.PositionInv.ppuDotAt {j : Nat} (hj : j ≤ 2) {s : State} (h : s.ppu.PositionInv) :
    (ppuDotAt j s).ppu.PositionInv := by
  obtain ⟨hh, hv, -⟩ := h
  have hpos := ppuDotAt_position j s
  rw [nextPosition] at hpos
  have hphase : (Machine.ppuDotAt j s).ppu.ppuPhase = j := by
    rw [ppuDotAt_eq, dotFinish_ppu, ppuClockRegisters_kept]
    exact advanceDot_dotBody_ppuPhase _ j s
  split at hpos
  · split at hpos
    all_goals
      simp only [Prod.mk.injEq] at hpos
      refine ⟨?_, ?_, ?_⟩ <;> omega
  · simp only [Prod.mk.injEq] at hpos
    refine ⟨?_, ?_, ?_⟩ <;> omega

/-! ## The evaluation -/

/-- The ranges of the evaluation (10 R55). -/
def Evaluation.InRange (e : Evaluation) : Prop :=
  e.secOam.length = 32 ∧ e.n ≤ 64 ∧ e.m ≤ 3 ∧ e.found ≤ 8 ∧
  (e.state = .newSprite → e.n < 64 ∧ e.found < 8 ∧ e.m = 0) ∧
  (e.state = .copySprite → e.n < 64 ∧ e.found < 8 ∧ 1 ≤ e.m) ∧
  (e.state = .overflow → e.n < 64)

/-- Between its reset and its start the evaluation has found nothing (61 R454). -/
def Evaluation.Idle (e : Evaluation) : Prop := e.found = 0 ∧ e.state = .done

namespace Evaluation.InRange

variable {e : Evaluation} (hlen : e.secOam.length = 32)
include hlen

theorem of_done (hs : e.state = .done) (hn : e.n ≤ 64) (hm : e.m ≤ 3) (hfound : e.found ≤ 8) : e.InRange := by
  refine ⟨hlen, hn, hm, hfound, ?_, ?_, ?_⟩ <;> rw [hs] <;> nofun

theorem of_newSprite (hs : e.state = .newSprite) (hn : e.n < 64) (hm : e.m = 0) (hfound : e.found < 8) : e.InRange := by
  refine ⟨hlen, hn.le, hm ▸ Nat.zero_le _, hfound.le, fun _ => ⟨hn, hfound, hm⟩, ?_, ?_⟩ <;> rw [hs] <;> nofun

theorem of_copySprite (hs : e.state = .copySprite) (hn : e.n < 64) (hm1 : 1 ≤ e.m) (hm3 : e.m ≤ 3) (hfound : e.found < 8) :
    e.InRange := by
  refine ⟨hlen, hn.le, hm3, hfound.le, ?_, fun _ => ⟨hn, hfound, hm1⟩, ?_⟩ <;> rw [hs] <;> nofun

theorem of_overflow (hs : e.state = .overflow) (hn : e.n < 64) (hm : e.m ≤ 3) (hfound : e.found ≤ 8) : e.InRange := by
  refine ⟨hlen, hn.le, hm, hfound, ?_, ?_, fun _ => hn⟩ <;> rw [hs] <;> nofun

end Evaluation.InRange

/-- The reset makes the evaluation idle (61 R454). -/
theorem evalReset_inRange {p : Ppu} (h : p.evaluation.InRange) :
    (evalReset p).evaluation.InRange ∧ (evalReset p).evaluation.Idle := by
  obtain ⟨hlen, hn, hm, -⟩ := h
  exact ⟨.of_done hlen rfl hn hm (Nat.zero_le _), rfl, rfl⟩

theorem setSecOam_inRange {p : Ppu} (h : p.evaluation.InRange) (i : Nat) (v : Byte) :
    (setSecOam p i v).evaluation.InRange := by
  obtain ⟨hlen, hrest⟩ := h
  exact ⟨(List.length_set ..).trans hlen, hrest⟩

/-- The start of an idle evaluation (61 R454). -/
theorem evalStart_inRange {p : Ppu} (h : p.evaluation.InRange) (hidle : p.evaluation.Idle) :
    (evalStart p).evaluation.InRange := by
  obtain ⟨hlen, -⟩ := h
  obtain ⟨hfound : p.evalFound = 0, -⟩ := hidle
  have hlt : p.evalFound < 8 := by omega
  exact .of_newSprite hlen rfl (Nat.zero_lt_succ _) rfl hlt

theorem evalRead_inRange {p : Ppu} (h : p.evaluation.InRange) : (evalRead p).evaluation.InRange := by
  rw [evalRead_evaluation]
  split <;> exact h

/-- The NEW_SPRITE step: on to the copy, to the next sprite, or past the last one (61 R457). -/
theorem evalNewSprite_inRange (m : SpriteSizeMode) {p : Ppu} (h : p.evaluation.InRange)
    (hstate : p.evaluation.state = .newSprite) : (evalNewSprite m p).evaluation.InRange := by
  obtain ⟨hlen, -, hm3, hfound, hnew, -⟩ := h
  obtain ⟨hn, hlt, hm⟩ := hnew hstate
  have hlen' (i : Nat) (v : Byte) : (p.evaluation.secOam.set i v).length = 32 := (List.length_set ..).trans hlen
  rw [evalNewSprite_evaluation]
  split
  · exact .of_copySprite (hlen' _ _) rfl hn le_rfl (Nat.le_add_left 1 2) hlt
  · by_cases hlast : p.evaluation.n = 63
    · exact .of_done (hlen' _ _) (if_pos hlast) hn hm3 hfound
    · have hn' : p.evaluation.n + 1 < 64 := by omega
      exact .of_newSprite (hlen' _ _) (if_neg hlast) hn' hm hlt

/-- The COPY_SPRITE step: on to the next byte, or with the fourth one to the next sprite, the overflow search or the end
(61 R458). -/
theorem evalCopySprite_inRange {p : Ppu} (h : p.evaluation.InRange) (hstate : p.evaluation.state = .copySprite) :
    (evalCopySprite p).evaluation.InRange := by
  obtain ⟨hlen, -, hm, hfound, -, hcopy, -⟩ := h
  obtain ⟨hn, hlt, hm1⟩ := hcopy hstate
  have hlen' (i : Nat) (v : Byte) : (p.evaluation.secOam.set i v).length = 32 := (List.length_set ..).trans hlen
  rw [evalCopySprite_evaluation]
  by_cases hm3 : p.evaluation.m = 3
  · rw [if_pos hm3]
    by_cases hlast : p.evaluation.n = 63
    · exact .of_done (hlen' _ _) (if_pos hlast) hn (Nat.zero_le _) hlt
    · have hn' : p.evaluation.n + 1 < 64 := by omega
      by_cases hfull : p.evaluation.found = 7
      · exact .of_overflow (hlen' _ _) ((if_neg hlast).trans (if_pos hfull)) hn' (Nat.zero_le _) hlt
      · have hlt' : p.evaluation.found + 1 < 8 := by omega
        exact .of_newSprite (hlen' _ _) ((if_neg hlast).trans (if_neg hfull)) hn' rfl hlt'
  · rw [if_neg hm3]
    have hm3' : p.evaluation.m + 1 ≤ 3 := by omega
    exact .of_copySprite (hlen' _ _) hstate hn (Nat.le_add_left ..) hm3' hlt

/-- The OVERFLOW step (61 R459). -/
theorem evalOverflow_inRange {p : Ppu} (h : p.evaluation.InRange) (hstate : p.evaluation.state = .overflow) :
    (evalOverflow p).evaluation.InRange := by
  obtain ⟨hlen, -, hm, hfound, -, -, hoverflow⟩ := h
  have hn := hoverflow hstate
  rw [evalOverflow_evaluation]
  by_cases hlast : p.evaluation.n = 63
  · exact .of_done hlen (if_pos hlast) hn hm hfound
  · have hn' : p.evaluation.n + 1 < 64 := by omega
    exact .of_overflow hlen (if_neg hlast) hn' hm hfound

theorem evalStep_inRange (m : SpriteSizeMode) {p : Ppu} (h : p.evaluation.InRange) : (evalStep m p).evaluation.InRange := by
  obtain ⟨hnew, hcopy, hoverflow, hdone⟩ := evalStep_eq m p
  cases hs : p.evaluation.state with
  | newSprite => exact hnew hs ▸ evalNewSprite_inRange m h hs
  | copySprite => exact hcopy hs ▸ evalCopySprite_inRange h hs
  | overflow => exact hoverflow hs ▸ evalOverflow_inRange h hs
  | done => exact (hdone hs).symm ▸ h

/-- Step S5 keeps the ranges of an evaluation that is idle up to its start (61 R453-R459). -/
theorem evalDot_inRange (m : SpriteSizeMode) (r : Bool) {p : Ppu} (h : p.evaluation.InRange)
    (hidle : p.hCount = 65 → p.evaluation.Idle) : (evalDot m r p).evaluation.InRange := by
  by_cases h1 : p.hCount = 1
  · exact evalDot_first m r h1 ▸ (evalReset_inRange h).1
  cases r with
  | false => exact (evalDot_off m h1).symm ▸ h
  | true =>
    by_cases h0 : p.hCount = 0
    · have hzero : evalDot m true p = setSecOam p (p.hCount / 2 - 1) 0xFF#8 := by
        simp [evalDot, h0]
      exact hzero ▸ setSecOam_inRange h _ _
    by_cases h64 : p.hCount ≤ 64
    · rw [evalDot_clear m (by omega) h64]
      split
      · exact setSecOam_inRange h _ _
      · exact h
    by_cases h65 : p.hCount = 65
    · exact evalDot_start m h65 ▸ evalRead_inRange (evalStart_inRange h (hidle h65))
    rcases Nat.mod_two_eq_zero_or_one p.hCount with heven | hodd
    · exact evalDot_even m (by omega) heven ▸ evalStep_inRange m h
    · exact evalDot_odd m (by omega) hodd ▸ evalRead_inRange h

/-- Up to dot 64 step S5 leaves an evaluation idle, and its dot 1 makes it so (61 R454). -/
theorem evalDot_idle (m : SpriteSizeMode) (r : Bool) {p : Ppu} (h1 : 1 ≤ p.hCount) (h64 : p.hCount ≤ 64)
    (hidle : 2 ≤ p.hCount → p.evaluation.Idle) : (evalDot m r p).evaluation.Idle := by
  by_cases hfirst : p.hCount = 1
  · exact evalDot_first m r hfirst ▸ ⟨rfl, rfl⟩
  · have h2 : 2 ≤ p.hCount := by omega
    cases r with
    | false => exact (evalDot_off m hfirst).symm ▸ hidle h2
    | true =>
      rw [evalDot_clear m h2 h64]
      split <;> exact hidle h2

/-- Over a dot the evaluation stays in its ranges, and idle between its reset and its start. -/
theorem ppuDotAt_evaluation_inRange (j : Nat) {s : State} (h : s.ppu.evaluation.InRange)
    (hidle : s.ppu.vCount ≤ 239 ∧ 2 ≤ s.ppu.hCount ∧ s.ppu.hCount ≤ 65 → s.ppu.evaluation.Idle) :
    (ppuDotAt j s).ppu.evaluation.InRange ∧
    ((ppuDotAt j s).ppu.vCount ≤ 239 ∧ 2 ≤ (ppuDotAt j s).ppu.hCount ∧ (ppuDotAt j s).ppu.hCount ≤ 65 →
      (ppuDotAt j s).ppu.evaluation.Idle) := by
  obtain ⟨p, hp, hh, hv, -, -, heval⟩ := ppuDotAt_evaluation j s
  have hpos := ppuDotAt_position j s
  rw [heval]
  rw [← hp] at h hidle
  refine ⟨?_, fun ⟨hv', h2, h65⟩ => ?_⟩
  · split
    · next hvisible =>
      obtain ⟨hline, -, -⟩ := (visibleDot_iff _).mp hvisible
      exact evalDot_inRange _ _ h fun h65 => hidle (by omega)
    · exact hp ▸ h
  · have hbefore : s.ppu.vCount ≤ 239 ∧ 1 ≤ s.ppu.hCount ∧ s.ppu.hCount ≤ 64 := by
      rw [nextPosition] at hpos
      split at hpos
      · split at hpos
        all_goals
          simp only [Prod.mk.injEq] at hpos
          omega
      · simp only [Prod.mk.injEq] at hpos
        omega
    rw [if_pos ((visibleDot_iff _).mpr (by omega))]
    exact evalDot_idle _ _ (by omega) (by omega) fun h2 => hidle (by omega)

/-! ## The slots -/

/-- The shifters keep the number of slots (61 R467). -/
theorem shiftSprites_length (p : Ppu) : (shiftSprites p).sprites.length = p.sprites.length := by
  rw [shiftSprites, List.length_append, List.length_map, List.length_take, List.length_drop]
  omega

/-- The slot fetches keep the number of slots (61 R461). -/
theorem spriteFetch_length (s : State) : (spriteFetch s).ppu.sprites.length = s.ppu.sprites.length := by
  have hset (i : Nat) (sl : SprSlot) : (setSlot s.ppu i sl).sprites.length = s.ppu.sprites.length := List.length_set ..
  rw [spriteFetch_eq]
  split
  · exact hset _ _
  · split
    · rw [spriteFetchLo_ppu, hset]
    · split
      · rw [spriteFetchHi_ppu, hset]
      · rfl

theorem dotS6_length (r : Bool) (s : State) : (dotS6 r s).ppu.sprites.length = s.ppu.sprites.length := by
  have hcommit := congrArg List.length (spriteCommitStage_sprites r s)
  rw [dotS6]
  split
  · rw [spriteLineDot, spriteFetchStage]
    split
    · rw [spriteFetch_length, hcommit]
    · exact hcommit
  · rfl

/-- Over a dot the number of slots stays. -/
theorem ppuDotAt_sprites_length (j : Nat) (s : State) : (ppuDotAt j s).ppu.sprites.length = s.ppu.sprites.length := by
  obtain ⟨w, -, -, hshift, hS6⟩ := ppuDotAt_line j s
  rw [hS6.sprites, dotS6_length, hshift.sprites]
  split
  · exact shiftSprites_length s.ppu
  · rfl

/-- Over a dot SprCount stays in its range: the commit takes what the evaluation found (61 R460). -/
theorem ppuDotAt_sprCount_le (j : Nat) {s : State} (h : s.ppu.sprCount ≤ 8) (hfound : s.ppu.evalFound ≤ 8) :
    (ppuDotAt j s).ppu.sprCount ≤ 8 := by
  have hcount : (ppuDotAt j s).ppu.sprCount = _ := congrArg Prod.fst (ppuDotAt_counts j s)
  rw [hcount]
  split
  · split
    · exact hfound
    · exact Nat.zero_le _
  · exact h

/-! ## The PPU -/

/-- The sprite part of the invariant in terms of the evaluation. -/
theorem spriteInv_iff (p : Ppu) : p.SpriteInv ↔ p.evaluation.InRange ∧ p.sprites.length = 8 ∧ p.sprCount ≤ 8 ∧
    (p.vCount ≤ 239 ∧ 2 ≤ p.hCount ∧ p.hCount ≤ 65 → p.evaluation.Idle) := by
  constructor
  · intro ⟨hlen, hslots, hcount, hn, hm, hfound, hnew, hcopy, hoverflow, hidle⟩
    exact ⟨⟨hlen, hn, hm, hfound, hnew, hcopy, hoverflow⟩, hslots, hcount, hidle⟩
  · intro ⟨⟨hlen, hn, hm, hfound, hnew, hcopy, hoverflow⟩, hslots, hcount, hidle⟩
    exact ⟨hlen, hslots, hcount, hn, hm, hfound, hnew, hcopy, hoverflow, hidle⟩

theorem Ppu.SpriteInv.ppuDotAt (j : Nat) {s : State} (h : s.ppu.SpriteInv) : (ppuDotAt j s).ppu.SpriteInv := by
  obtain ⟨hrange, hslots, hcount, hidle⟩ := (spriteInv_iff _).mp h
  obtain ⟨hrange', hidle'⟩ := ppuDotAt_evaluation_inRange j hrange hidle
  obtain ⟨-, -, -, hfound, -⟩ := hrange
  exact (spriteInv_iff _).mpr ⟨hrange', (ppuDotAt_sprites_length j s).trans hslots, ppuDotAt_sprCount_le j hcount hfound,
    hidle'⟩

/-- Over a dot the PPU's invariant stays. -/
theorem Ppu.Inv.ppuDotAt {j : Nat} (hj : j ≤ 2) {s : State} (h : s.ppu.Inv) : (ppuDotAt j s).ppu.Inv := by
  obtain ⟨hstatus, hposition, hsprite, hoam⟩ := h
  have hoam' : (Machine.ppuDotAt j s).ppu.oam = s.ppu.oam :=
    (dotFinish_registers (renderingEnabled s.ppu) (dotBody (renderingEnabled s.ppu) (dotStart j s))).1.trans
      (dotBodyAt_effect j s).ppu.oam
  exact ⟨hstatus.ppuDotAt j, hposition.ppuDotAt hj, hsprite.ppuDotAt j, hoam'.symm ▸ hoam⟩

end Sys2Proof.Machine
end

section
/-! PROOFS. The invariant over a step (10 R39, R46, R52, R54-R62): the CPU's tick, the DMA step, the dots. -/

namespace Sys2Proof.Machine

/-! ## The units -/

/-- An interrupt sequence keeps the invariant of the units: three pushes and a vector's two reads (60 R390). -/
theorem State.UnitsInv.enterException {s : State} (hs : s.UnitsInv) (vec : Word) (pushed : Byte) :
    (enterException s vec pushed).UnitsInv := unitsInv_writeClosed.enterException s vec pushed hs

theorem State.UnitsInv.exec {i : Instr} {s t : State} (hs : s.UnitsInv) (h : exec i s = .next t) : t.UnitsInv := by
  obtain ⟨u, hu, hunits, -⟩ := unitsInv_writeClosed.exec_outcome i s
  obtain ⟨-, rfl⟩ := finish_eq_next.mp (hu.symm.trans h)
  exact hunits hs

/-- The DMA step keeps the invariant of the units (20 R118-R120). -/
theorem State.UnitsInv.dmaStep {s : State} (hs : s.UnitsInv) : (dmaStep s).UnitsInv := by
  have hunits := hs
  obtain ⟨hppu, hbus, hcart⟩ := hs
  obtain ⟨hram, hramIn, hvram, hvramIn, hpal, hpalIn, hpalAlias, hpat, hpatIn, hcount, hbusy, hbase⟩ := hbus
  rw [Machine.dmaStep]
  split
  · exact hunits
  · next hwaiting =>
    have hlt : s.bus.dmaCount < 256 := hbusy (by rw [hwaiting]; nofun)
    rw [dmaWait]
    split
    · exact hunits
    · exact ⟨hppu, ⟨hram, hramIn, hvram, hvramIn, hpal, hpalIn, hpalAlias, hpat, hpatIn, hcount, fun _ => hlt, hbase⟩, hcart⟩
  · next hrunning =>
    have hlt : s.bus.dmaCount < 256 := hbusy (by rw [hrunning]; nofun)
    split
    · have hread := hunits.of_read (memRead_effect s (s.bus.dmaBase + BitVec.ofNat 16 s.bus.dmaCount))
      exact hread
    · rw [dmaWriteStep, memWrite_2004]
      refine ⟨hppu.oamDataWrite _, ⟨hram, hramIn, hvram, hvramIn, hpal, hpalIn, hpalAlias, hpat, hpatIn, hlt,
        fun hstate => ?_, hbase⟩, hcart⟩
      refine Nat.lt_of_le_of_ne hlt fun hlast => ?_
      exact hstate (if_pos hlast)

/-- A dot keeps the invariant of the units (70 R520). -/
theorem State.UnitsInv.ppuDotAt {j : Nat} (hj : j ≤ 2) {s : State} (hs : s.UnitsInv) : (ppuDotAt j s).UnitsInv := by
  obtain ⟨hppu, hbus, hcart⟩ := hs
  have hdot := ppuDotAt_effect j s
  refine ⟨hppu.ppuDotAt hj, ?_, hdot.cart.symm ▸ hcart⟩
  rw [hdot.bus]
  exact hbus

theorem State.UnitsInv.ppuDots {s : State} (hs : s.UnitsInv) : (ppuDots s).UnitsInv :=
  ((hs.ppuDotAt (j := 0) (by decide)).ppuDotAt (j := 1) (by decide)).ppuDotAt (j := 2) (by decide)

/-- The cycle count is no part of the invariant. -/
theorem State.UnitsInv.countCycle {s : State} (hs : s.UnitsInv) : (countCycle s).UnitsInv := hs

/-- What follows the CPU's part of a step keeps the invariant of the units. -/
theorem State.UnitsInv.afterCpu {s t : State} (hs : s.UnitsInv) (h : afterCpu s = .next t) : t.UnitsInv := by
  obtain ⟨-, rfl⟩ := finish_eq_next.mp h
  exact hs.dmaStep.ppuDots.countCycle

/-! ## The CPU -/

/-- The CPU inside an instruction: its stored B bits, the phase, and 1 to 8 cycles left (10 R39, 30 R196). -/
def Cpu.Busy (c : Cpu) : Prop :=
  StoredStatus c.p ∧ c.phase = .rise ∧ 1#8 ≤ c.cyclesLeft ∧ c.cyclesLeft ≤ 8#8

/-- The trap entry's change of P keeps its stored form (60 R390). -/
theorem StoredStatus.setI {p : Byte} (h : StoredStatus p) : StoredStatus (p ||| 0x04#8) := by
  obtain ⟨h0, h1⟩ := h
  constructor
  · rw [getFlag, BitVec.getLsbD_or]
    exact (Bool.or_false _).trans h0
  · rw [getFlag, BitVec.getLsbD_or]
    exact (Bool.or_false _).trans h1

/-- The dispatch begins an instruction or an interrupt sequence (40 R226, 60 R388, R389), which keeps the invariant of the
units. -/
theorem dispatch_busy {s t : State} (h : dispatch s = .next t) (hp : StoredStatus s.cpu.p) (hphase : s.cpu.phase = .rise)
    (hunits : s.UnitsInv) : t.cpu.Busy ∧ t.UnitsInv := by
  have hseven : 1#8 ≤ 7#8 ∧ 7#8 ≤ 8#8 := by decide
  rw [dispatch] at h
  split at h
  · obtain ⟨-, rfl⟩ := finish_eq_next.mp h
    refine ⟨?_, hunits.enterException _ _⟩
    rw [nmiSequence_eq]
    exact ⟨hp.setI, hphase, hseven⟩
  · split at h
    · obtain ⟨-, rfl⟩ := finish_eq_next.mp h
      refine ⟨?_, hunits.enterException _ _⟩
      rw [irqSequence_eq]
      exact ⟨hp.setI, hphase, hseven⟩
    · have hfetch := fetch_effect s
      obtain ⟨-, hregs, hcycles⟩ := exec_next h
      have hp' : StoredStatus (fetch s).st.cpu.p := hfetch.cpu.symm ▸ hp
      have hphase' : (fetch s).st.cpu.phase = .rise := hfetch.cpu.symm ▸ hphase
      exact ⟨⟨hregs.stored hp', (congrArg Cpu.phase hregs.rest).trans hphase', hcycles⟩, (hunits.of_read hfetch).exec h⟩

/-- The count a tick leaves is one less, so at most 7 (40 R231). -/
theorem Cpu.Busy.tick {c : Cpu} (h : c.Busy) : (countdown (lookahead c)).Inv := by
  obtain ⟨⟨h0, h1⟩, hphase, hlo, hhi⟩ := h
  have hcycles : c.cyclesLeft - 1#8 ≤ 7#8 := by bv_omega
  rw [lookahead]
  split
  · exact ⟨h0, h1, hphase, hcycles⟩
  · exact ⟨h0, h1, hphase, hcycles⟩

/-- An acting tick keeps the invariant: frozen, or inside an instruction after its third step (40 R222). -/
theorem actingTick_inv {s t : State} (h : actingTick s = .next t) (hcpu : s.cpu.Inv) (hunits : s.UnitsInv) :
    t.cpu.Inv ∧ t.UnitsInv := by
  obtain ⟨h0, h1, hphase, hcycles⟩ := hcpu
  rw [actingTick] at h
  split at h
  · cases h
    exact ⟨⟨h0, h1, hphase, hcycles⟩, hunits⟩
  · obtain ⟨u, hu, h⟩ := andThen_eq_next.mp h
    cases h
    have hbusy : u.cpu.Busy ∧ u.UnitsInv := by
      rw [dispatchIfDue] at hu
      split at hu
      · exact dispatch_busy hu ⟨h0, h1⟩ hphase hunits
      · next hne =>
        cases hu
        have hne' : s.cpu.cyclesLeft ≠ 0#8 := hne
        have hlo : 1#8 ≤ s.cpu.cyclesLeft := by bv_omega
        have hhi : s.cpu.cyclesLeft ≤ 8#8 := by bv_omega
        exact ⟨⟨⟨h0, h1⟩, hphase, hlo, hhi⟩, hunits⟩
    exact ⟨hbusy.1.tick, hbusy.2⟩

/-! ## The step -/

/-- Settles O56: the CPU's part and what follows it keep the invariant, each on its own fields. -/
theorem stepKeepsInvariant : Obligations.StepKeepsInvariant := by
  intro s t ⟨hnone, hcpu, hunits⟩ h
  have hphase : (sampleInputs s).cpu.phase = .rise := hcpu.2.2.1
  rw [step_eq_cpuPart hnone, cpuPart_eq hphase] at h
  obtain ⟨u, hu, hafter⟩ := andThen_eq_next.mp h
  have hu' : u.cpu.Inv ∧ u.UnitsInv := by
    split at hu
    · cases hu
      exact ⟨hcpu, hunits⟩
    · exact actingTick_inv hu hcpu hunits
  obtain ⟨heffect, hnone'⟩ := afterCpu_next hafter
  exact ⟨hnone', heffect.cpu.symm ▸ hu'.1, hu'.2.afterCpu hafter⟩

/-- Settles O55: every store is empty and every counter 0 after reset. -/
theorem resetMeetsInvariant : Obligations.ResetMeetsInvariant := by
  have hcpu : State.reset.cpu.Inv := by decide
  have hsprite : State.reset.ppu.SpriteInv := by decide
  have hbus : State.reset.bus.Inv := by decide
  have hcart : State.reset.cart.Inv := by decide
  exact ⟨rfl, hcpu, ⟨by decide, by decide, hsprite, by decide, by decide⟩, hbus, hcart⟩

end Sys2Proof.Machine
end

section
/-! PROOFS. The flags, the addressing modes, add and subtract, the branches, and the instructions whose rules carry a decision
of the spec (spec/40_cpu_pipeline.md section 4, 42 section 2, 43 sections 2-5, 44 sections 3-5). -/

namespace Sys2Proof.Machine

/-! ## The flags in numbers -/

/-- A byte as a signed number. -/
theorem byte_toInt (b : Byte) : b.toInt = b.toNat - if 128 ≤ b.toNat then 256 else 0 := by
  rw [BitVec.toInt_eq_toNat_cond]
  split <;> split <;> omega

/-- The overflow formula is that of the signed sum: the operands agree in sign and the result does not (42 R280). -/
theorem adcOverflow_signed (a m : Byte) (c : Bool) : adcOverflow a m (adcResult a m c) =
    decide (a.toInt + m.toInt + c.toNat < -128 ∨ 127 < a.toInt + m.toInt + c.toNat) := by
  have hr : (adcResult a m c).toNat = (a.toNat + m.toNat + c.toNat) % 256 := by
    rw [adcResult_eq, BitVec.toNat_ofNat]
    rfl
  have hc : c.toNat ≤ 1 := Bool.toNat_le c
  have ha := a.isLt
  have hm := m.isLt
  rw [adcOverflow_eq, BitVec.getLsbD_and, BitVec.getLsbD_not, BitVec.getLsbD_xor, BitVec.getLsbD_xor, byte_bit7, byte_bit7,
    byte_bit7, hr, byte_toInt, byte_toInt, Bool.eq_iff_iff]
  simp only [Nat.reduceLT, decide_true, Bool.true_and, Bool.and_eq_true, Bool.not_eq_true', bne_eq_false_iff_eq,
    decide_eq_decide, bne_iff_ne, ne_eq, decide_eq_true_eq]
  split <;> split <;> omega

/-- Settles O6: the flag writers bit by bit, and the adder in exact arithmetic. -/
theorem flagBitsAndSignedOverflow : Obligations.FlagBitsAndSignedOverflow := by
  refine ⟨fun p i j b hi hj => withFlag_getLsbD p b hi hj, fun p v j hj => ?_,
    fun a m c => ⟨adcOverflow_signed a m c, adcSum_carry a m c, ?_⟩⟩
  · have hzero : (v == 0#8) = decide (v.toNat = 0) := by
      rw [Bool.eq_iff_iff, beq_iff_eq, decide_eq_true_eq, BitVec.toNat_eq]
      rfl
    rw [getFlag, setNZ_getLsbD p v hj, byte_bit7, hzero]
    by_cases h1 : j = 1
    · subst h1
      rfl
    · rw [if_neg h1, if_neg (Ne.symm h1)]
      exact ite_congr (propext eq_comm) (fun _ => rfl) (fun _ => rfl)
  · rw [adcResult_eq, BitVec.toNat_ofNat]

/-! ## The addressing modes in numbers -/

theorem hiByte_toNat (w : Word) : (hiByte w).toNat = w.toNat / 256 := by
  have hw := w.isLt
  rw [hiByte, BitVec.extractLsb'_toNat, Nat.shiftRight_eq_div_pow]
  omega

theorem zeroPage_toNat (z : Byte) : (zeroPage z).toNat = z.toNat := BitVec.toNat_setWidth_of_le (by decide)

/-- A zero-page address is its byte as a word (40 R235). -/
theorem zeroPage_eq (z : Byte) : zeroPage z = BitVec.ofNat 16 z.toNat := BitVec.eq_of_toNat_eq (by
  rw [zeroPage_toNat, BitVec.toNat_ofNat]
  omega)

theorem loByte_zeroPage (z : Byte) : loByte (zeroPage z) = z := BitVec.eq_of_toNat_eq (by
  rw [loByte, BitVec.extractLsb'_toNat, zeroPage_toNat, Nat.shiftRight_zero]
  exact Nat.mod_eq_of_lt z.isLt)

theorem wordOf_toNat (lo hi : Byte) : (wordOf lo hi).toNat = lo.toNat + 256 * hi.toNat := by
  rw [wordOf, BitVec.toNat_append, ← Nat.shiftLeft_add_eq_or_of_lt lo.isLt, Nat.shiftLeft_eq]
  omega

theorem hiByte_ne_iff (v w : Word) : hiByte v ≠ hiByte w ↔ v.toNat / 256 ≠ w.toNat / 256 := by
  rw [ne_eq, ← BitVec.toNat_inj, hiByte_toNat, hiByte_toNat]

/-- Indexing adds modulo 2^16 and compares the high bytes (40 R238, R243). -/
theorem indexed_eq (base : Word) (index : Byte) (s : State) : indexed base index s =
    ⟨BitVec.ofNat 16 (base.toNat + index.toNat),
      decide ((base.toNat + index.toNat) % 65536 / 256 ≠ base.toNat / 256), s⟩ := by
  have hsum : base + index.setWidth 16 = BitVec.ofNat 16 (base.toNat + index.toNat) := BitVec.eq_of_toNat_eq (by
    rw [BitVec.toNat_add, BitVec.toNat_setWidth_of_le (by decide), BitVec.toNat_ofNat])
  have hcross : (hiByte (BitVec.ofNat 16 (base.toNat + index.toNat)) != hiByte base) =
      decide ((base.toNat + index.toNat) % 65536 / 256 ≠ base.toNat / 256) := by
    rw [Bool.eq_iff_iff, bne_iff_ne, decide_eq_true_eq, hiByte_ne_iff, BitVec.toNat_ofNat]
  rw [indexed, hsum, hcross]

/-- A read of the zero page (20 R101). -/
theorem memRead_zeroPage (s : State) (z : Byte) : memRead s (zeroPage z) = (Memory.read s.bus.ram z.toNat, s) := by
  have hz := z.isLt
  have hlow : zeroPage z < 0x2000#16 := by
    rw [BitVec.lt_def, zeroPage_toNat, BitVec.toNat_ofNat]
    omega
  rw [memRead_ram s hlow, ramIndex_eq, zeroPage_toNat, Nat.mod_eq_of_lt (by omega)]

/-- A zero-page pointer, its second byte wrapping inside the page (40 R242). -/
theorem zeroPagePointer_eq (s : State) (z : Byte) : zeroPagePointer s z =
    (wordOf (Memory.read s.bus.ram z.toNat) (Memory.read s.bus.ram ((z.toNat + 1) % 256)), s) := by
  rw [zeroPagePointer, memRead_zeroPage, memRead_zeroPage]
  rfl

theorem wordOf_eq_ofNat {lo hi : Byte} {p : Nat} (h : p = lo.toNat + 256 * hi.toNat) : wordOf lo hi = BitVec.ofNat 16 p := by
  have hlo := lo.isLt
  have hhi := hi.isLt
  apply BitVec.eq_of_toNat_eq
  rw [wordOf_toNat, BitVec.toNat_ofNat]
  omega

/-- The relative target in integers (40 R244). -/
theorem add_signExtend_toNat (pc : Word) (z : Byte) :
    ((pc + z.signExtend 16).toNat : Int) = ((pc.toNat : Int) + z.toInt) % 65536 := by
  rw [BitVec.signExtend, BitVec.toNat_add, BitVec.toNat_ofInt]
  omega

/-- Settles O7: each mode in exact arithmetic; IND reads its two bytes wherever the pointer lies. -/
theorem addressingModesExplicit : Obligations.AddressingModesExplicit := by
  intro s z w
  have hzpIndexed (i : Byte) : zeroPage (loByte (zeroPage z) + i) = BitVec.ofNat 16 ((z.toNat + i.toNat) % 256) := by
    rw [zeroPage_eq, loByte_zeroPage, BitVec.toNat_add]
  refine ⟨rfl, rfl, rfl, ?_, ?_, ?_, rfl, indexed_eq w s.cpu.x s, indexed_eq w s.cpu.y s, fun p hp => ?_, fun p hp => ?_,
    ⟨?_, rfl⟩, fun w2 hw2 h h2 => resolve_ind_storable s hw2 h h2, fun w2 hw2 => ?_⟩
  · rw [resolve, zeroPage_eq]
  · rw [resolve, hzpIndexed]
  · rw [resolve, hzpIndexed]
  · have hnext : ((z + s.cpu.x).toNat + 1) % 256 = (z.toNat + s.cpu.x.toNat + 1) % 256 := by
      rw [BitVec.toNat_add]
      omega
    rw [resolve, zeroPagePointer_eq, loByte_zeroPage, hnext, BitVec.toNat_add, wordOf_eq_ofNat hp]
  · have hp16 : (BitVec.ofNat 16 p).toNat = p := by
      rw [← wordOf_eq_ofNat hp, wordOf_toNat, hp]
    rw [resolve, zeroPagePointer_eq, loByte_zeroPage, wordOf_eq_ofNat hp, indexed_eq, hp16]
  · rw [resolve, loByte_zeroPage]
    exact add_signExtend_toNat s.cpu.pc z
  · obtain rfl := BitVec.eq_of_toNat_eq (hw2.trans (indirectHigh_toNat w).symm)
    rfl

/-! ## Add and subtract -/

theorem adcForms_runsAs (b : Byte) (w : Word) : ∀ f ∈ adcForms b w, f.RunsAs (runRead · · doAdc) := by
  intro f hf
  fin_cases hf <;> exact .intro rfl fun _ => rfl

theorem sbcForms_runsAs (b : Byte) (w : Word) : ∀ f ∈ sbcForms b w, f.RunsAs (runRead · · doSbc) := by
  intro f hf
  fin_cases hf <;> exact .intro rfl fun _ => rfl

/-- Settles O10: each encoding runs in the reading shape, with the adder in exact arithmetic. -/
theorem addSubtractComplete : Obligations.AddSubtractComplete := fun _ b w hs =>
  ⟨fun f hf => (adcForms_runsAs b w f hf).exec_read adc_eq (fun _ _ _ => rfl) hs,
    fun f hf => (sbcForms_runsAs b w f hf).exec_read (g := fun m => addTo (~~~m)) (fun m => adc_eq (~~~m))
      (fun _ _ _ => rfl) hs⟩

/-! ## The instructions of decided rules -/

theorem laxForms_runsAs (b : Byte) (w : Word) : ∀ f ∈ laxForms b w, f.RunsAs (runRead · · doLax) := by
  intro f hf
  fin_cases hf <;> exact .intro rfl fun _ => rfl

/-- The implied NOPs too run in the reading shape: the implied mode reads nothing (40 R245). -/
theorem nopForms_runsAs (b : Byte) (w : Word) : ∀ f ∈ nopForms b w, f.RunsAs (runRead · · doNop) := by
  intro f hf
  fin_cases hf <;> exact .intro rfl fun _ => rfl

/-- Settles O18: CLI in the implied shape, PHP and PLP by their handlers' stack accesses, LAX and the NOPs in the reading
shape. -/
theorem decidedInstructionsComplete : Obligations.DecidedInstructionsComplete := by
  intro s b w hs
  refine ⟨?_, ?_, ?_, fun f hf => (laxForms_runsAs b w f hf).exec_read (fun _ _ => rfl) (fun _ _ _ => rfl) hs,
    fun f hf => (nopForms_runsAs b w f hf).exec_read (fun _ _ => rfl) (fun _ _ _ => rfl) hs⟩
  · exact Form.RunsAs.exec_implied (h := doCli) (.intro rfl fun _ => rfl) (fun _ => rfl) (fun _ _ => rfl) hs
  · rw [Form.RunsAs.exec_implied_handler (h := doPhp) (.intro rfl fun _ => rfl) (fun t => push8_effect t _) hs, doPhp,
      push8_eq]
    rfl
  · rw [Form.RunsAs.exec_implied_handler (h := doPlp) (.intro rfl fun _ => rfl) (stackEffect_of_eq_setCpu doPlp_eq) hs,
      doPlp_eq]
    rfl

/-! ## The kill opcodes -/

theorem killForms_runsAs (b : Byte) (w : Word) :
    ∀ f ∈ kilForms b w ++ ahxForms b w ++ tasForms b w ++ shyForms b w ++ shxForms b w ++ xaaForms b w,
      f.RunsAs runKill := by
  intro f hf
  fin_cases hf <;> exact .intro rfl fun _ => rfl

/-- Settles O21: each encoding runs in the shape of a kill opcode, whose mode changes no register. -/
theorem killOpcodesKill : Obligations.KillOpcodesKill := by
  intro s b w hs f hf
  obtain ⟨hmap, hexec⟩ := killForms_runsAs b w f hf
  rw [(hexec s).trans (runKill_next hs f.op f.operand).1, hmap.beginAndResolve_eq, ← f.target_cpu s]
  rfl

/-! ## The branches -/

/-- The page of an address by its mask (40 R230). -/
theorem page_ne_iff (v w : Word) : ((v &&& 0xFF00#16) != (w &&& 0xFF00#16)) = decide (v.toNat / 256 ≠ w.toNat / 256) := by
  have hpage (u : Word) : u &&& 0xFF00#16 = u >>> 8 <<< 8 := (BitVec.shiftLeft_ushiftRight (x := u) (n := 8)).symm
  have hnum (u : Word) : (u &&& 0xFF00#16).toNat = u.toNat / 256 * 256 := by
    have hu := u.isLt
    rw [hpage, BitVec.toNat_shiftLeft, BitVec.toNat_ushiftRight, Nat.shiftRight_eq_div_pow, Nat.shiftLeft_eq]
    omega
  rw [Bool.eq_iff_iff, bne_iff_ne, decide_eq_true_eq, ne_eq, ← BitVec.toNat_inj, hnum, hnum]
  omega

/-- A branch in closed form (43 R316, 40 R230, R244). -/
theorem runBranch_eq {s : State} (hs : s.Ready) {op b : Byte} {pen : Bool} (hmap : opInfo op = ⟨.rel, 2#8, pen⟩)
    (cond : Byte → Bool) {next target : Word} (hnext : next = s.cpu.pc + 2#16) (htarget : target = next + b.signExtend 16) :
    runBranch op b cond s = .next (s.setCpu { s.cpu with
      opcode := op, mode := .rel, instrCount := s.cpu.instrCount + 1#64, effAddr := target
      pc := if cond s.cpu.p then target else next
      cyclesLeft :=
        if cond s.cpu.p then (if target.toNat / 256 = next.toNat / 256 then 3#8 else 4#8) else 2#8 }) := by
  have hbegin : beginAndResolve op (zeroPage b) s = ⟨target, false, s.setCpu { s.cpu with
      opcode := op, mode := .rel, pc := next, instrCount := s.cpu.instrCount + 1#64, effAddr := target }⟩ := by
    rw [beginAndResolve, beginInstr, hmap, resolve, loByte_zeroPage, htarget, hnext]
    rfl
  rw [(runBranch_next hs op b cond).1, hbegin, branchCycles, hmap, page_ne_iff]
  cases hcond : cond s.cpu.p with
  | false => simp [hcond, State.setCycles]
  | true =>
    by_cases hpage : target.toNat / 256 = next.toNat / 256
    · simp [hcond, hpage, State.setCycles, State.setPc]
    · simp [hcond, hpage, State.setCycles, State.setPc]

/-- Each branch is in the opcode map and runs in the branch shape, on its flag (43 R317-R324). -/
theorem branchForms_runsAs (b : Byte) : ∀ f ∈ branchForms b,
    (∃ pen, opInfo f.2.1 = ⟨.rel, 2#8, pen⟩) ∧ ∀ s, exec f.1 s = runBranch f.2.1 b f.2.2 s := by
  have hclear (k : Nat) : (fun p => !getFlag p k) = fun p : Byte => p.getLsbD k == false := by
    funext p
    rw [getFlag]
    cases p.getLsbD k <;> rfl
  have hset (k : Nat) : (fun p => getFlag p k) = fun p : Byte => p.getLsbD k == true := by
    funext p
    rw [getFlag]
    cases p.getLsbD k <;> rfl
  simp only [branchForms, List.forall_mem_cons, List.not_mem_nil, false_imp_iff, implies_true, and_true]
  exact ⟨⟨⟨_, rfl⟩, fun s => congrArg (runBranch _ b · s) (hclear 7)⟩,
    ⟨⟨_, rfl⟩, fun s => congrArg (runBranch _ b · s) (hset 7)⟩,
    ⟨⟨_, rfl⟩, fun s => congrArg (runBranch _ b · s) (hclear 6)⟩,
    ⟨⟨_, rfl⟩, fun s => congrArg (runBranch _ b · s) (hset 6)⟩,
    ⟨⟨_, rfl⟩, fun s => congrArg (runBranch _ b · s) (hclear 0)⟩,
    ⟨⟨_, rfl⟩, fun s => congrArg (runBranch _ b · s) (hset 0)⟩,
    ⟨⟨_, rfl⟩, fun s => congrArg (runBranch _ b · s) (hclear 1)⟩,
    ⟨⟨_, rfl⟩, fun s => congrArg (runBranch _ b · s) (hset 1)⟩⟩

/-- Settles O16: each branch runs in the branch shape, in closed form. -/
theorem branchesComplete : Obligations.BranchesComplete := by
  intro s b hs f hf next target hnext htarget
  obtain ⟨⟨pen, hmap⟩, hexec⟩ := branchForms_runsAs b f hf
  rw [hexec, runBranch_eq hs hmap f.2.2 hnext htarget]

end Sys2Proof.Machine
end

section
/-! PROOFS. Round trips through the stack (43 R314, 60 R394, R395): what a push puts in a slot of page 1, the pull of the same
S finds there. -/

namespace Sys2Proof.Machine

/-! ## The slots of the stack -/

theorem stackIndex_inj {a b : Byte} : stackIndex a = stackIndex b ↔ a = b := by
  rw [stackIndex, stackIndex, Nat.add_left_cancel_iff, BitVec.toNat_inj]

/-- A read of a stack slot after a write to one. -/
theorem read_write_stack {m : Memory} (hm : Memory.wf m) (a b : Byte) (v : Byte) :
    Memory.read (Memory.write m (stackIndex a) v) (stackIndex b) =
      if a = b then v else Memory.read m (stackIndex b) := by
  rw [Memory.read_write m _ _ v hm]
  exact ite_congr (propext stackIndex_inj) (fun _ => rfl) (fun _ => rfl)

/-- RAM after a trap's three pushes from `S = sp` (60 R390). -/
def trapRam (ram : Memory) (sp : Byte) (pc : Word) (status : Byte) : Memory :=
  Memory.write (Memory.write (Memory.write ram (stackIndex sp) (hiByte pc)) (stackIndex (sp - 1#8)) (loByte pc))
    (stackIndex (sp - 2#8)) status

/-- What the three slots then hold. -/
theorem read_trapRam {ram : Memory} (hwf : Memory.wf ram) (sp : Byte) (pc : Word) (status : Byte) :
    Memory.read (trapRam ram sp pc status) (stackIndex (sp - 2#8)) = status ∧
    Memory.read (trapRam ram sp pc status) (stackIndex (sp - 1#8)) = loByte pc ∧
    Memory.read (trapRam ram sp pc status) (stackIndex sp) = hiByte pc := by
  have hwf1 := Memory.write_wf (stackIndex sp) (hiByte pc) hwf
  have hwf2 := Memory.write_wf (stackIndex (sp - 1#8)) (loByte pc) hwf1
  have h21 : sp - 2#8 ≠ sp - 1#8 := by bv_omega
  have h20 : sp - 2#8 ≠ sp := by bv_omega
  have h10 : sp - 1#8 ≠ sp := by bv_omega
  rw [trapRam]
  refine ⟨?_, ?_, ?_⟩
  · rw [read_write_stack hwf2, if_pos rfl]
  · rw [read_write_stack hwf2, if_neg h21, read_write_stack hwf1, if_pos rfl]
  · rw [read_write_stack hwf2, if_neg h20, read_write_stack hwf1, if_neg h10, read_write_stack hwf, if_pos rfl]

/-! ## The status byte -/

/-- A stored P comes back from what is pushed of it, whatever the pushed B bits (10 R39). -/
theorem pulled_of_stored {p q : Byte} (h4 : p.getLsbD 4 = false) (h5 : p.getLsbD 5 = true)
    (hq : ∀ j < 8, j ≠ 4 → j ≠ 5 → q.getLsbD j = p.getLsbD j) : (q &&& 0xEF#8) ||| 0x20#8 = p := by
  have hmask (b : Byte) : b.getLsbD 4 = false → b.getLsbD 5 = true → (b &&& 0xEF#8) ||| 0x20#8 = b := by
    revert b
    decide
  have hsame : (q &&& 0xEF#8) ||| 0x20#8 = (p &&& 0xEF#8) ||| 0x20#8 := by
    refine BitVec.eq_of_getLsbD_eq fun j hj => ?_
    rw [BitVec.getLsbD_or, BitVec.getLsbD_and, BitVec.getLsbD_or, BitVec.getLsbD_and]
    by_cases hj4 : j = 4
    · subst hj4
      simp
    · by_cases hj5 : j = 5
      · subst hj5
        simp
      · rw [hq j hj hj4 hj5]
  exact hsame.trans (hmask p h4 h5)

/-- What an interrupt pushes agrees with P outside the B bits (60 R390). -/
theorem pulled_interruptPushed {p : Byte} (h4 : p.getLsbD 4 = false) (h5 : p.getLsbD 5 = true) :
    (((p &&& 0xEF#8) ||| 0x20#8) &&& 0xEF#8) ||| 0x20#8 = p := by
  refine pulled_of_stored h4 h5 fun j hj hj4 hj5 => ?_
  interval_cases j <;> simp_all

/-- What PHP and BRK push agrees with P outside the B bits (10 R39). -/
theorem pulled_softwarePushed {p : Byte} (h4 : p.getLsbD 4 = false) (h5 : p.getLsbD 5 = true) :
    ((p ||| 0x30#8) &&& 0xEF#8) ||| 0x20#8 = p := by
  refine pulled_of_stored h4 h5 fun j hj hj4 hj5 => ?_
  interval_cases j <;> simp_all

/-! ## Returns -/

/-- RTI after a trap gives back what the trap saved (60 R394, R395). -/
theorem exec_rti_of_trap {s : State} {ram : Memory} (hs : s.Ready) (hwf : Memory.wf ram) {sp status : Byte} {pc : Word}
    (hram : s.bus.ram = trapRam ram sp pc status) (hsp : s.cpu.s = sp - 3#8) :
    ∃ u, exec .rti s = .next u ∧ u.cpu.pc = pc ∧ u.cpu.p = (status &&& 0xEF#8) ||| 0x20#8 ∧ u.cpu.s = sp := by
  obtain ⟨hrti, -⟩ := stackAndFlagInstructionsComplete s hs
  obtain ⟨hstatus, hlow, hhigh⟩ := read_trapRam hwf sp pc status
  have h1 : sp - 3#8 + 1#8 = sp - 2#8 := by bv_omega
  have h2 : sp - 3#8 + 2#8 = sp - 1#8 := by bv_omega
  have h3 : sp - 3#8 + 3#8 = sp := BitVec.sub_add_cancel ..
  rw [hsp, hram, h1, h2, h3, hstatus, hlow, hhigh, wordOf_lo_hi] at hrti
  exact ⟨_, hrti, rfl, rfl, rfl⟩

/-- RTS after a push of an address goes past it (43 R311, R312). -/
theorem exec_rts_of_pushed {s : State} {ram : Memory} (hs : s.Ready) (hwf : Memory.wf ram) {sp : Byte} {pc : Word}
    (hram : s.bus.ram = Memory.write (Memory.write ram (stackIndex sp) (hiByte pc)) (stackIndex (sp - 1#8)) (loByte pc))
    (hsp : s.cpu.s = sp - 2#8) : ∃ u, exec .rts s = .next u ∧ u.cpu.pc = pc + 1#16 ∧ u.cpu.s = sp := by
  obtain ⟨-, -, -, hrts⟩ := jumpsComplete s 0#8 0#16 hs
  have hwf1 := Memory.write_wf (stackIndex sp) (hiByte pc) hwf
  have h1 : sp - 2#8 + 1#8 = sp - 1#8 := by bv_omega
  have h2 : sp - 2#8 + 2#8 = sp := BitVec.sub_add_cancel ..
  have h10 : sp - 1#8 ≠ sp := by bv_omega
  rw [hsp, hram, h1, h2, read_write_stack hwf1, if_pos rfl, read_write_stack hwf1, if_neg h10, read_write_stack hwf,
    if_pos rfl, wordOf_lo_hi] at hrts
  exact ⟨_, hrts, rfl, rfl⟩

/-- A pull after a push of one byte, by what PLA and PLP do with it (43 R328, R325). -/
theorem exec_pull_of_pushed {s : State} {ram : Memory} (hs : s.Ready) (hwf : Memory.wf ram) {sp v : Byte}
    (hram : s.bus.ram = Memory.write ram (stackIndex sp) v) (hsp : s.cpu.s = sp - 1#8) :
    (∃ u, exec .pla s = .next u ∧ u.cpu.a = v ∧ u.cpu.s = sp) ∧
    (∃ u, exec .plp s = .next u ∧ u.cpu.p = (v &&& 0xEF#8) ||| 0x20#8 ∧ u.cpu.s = sp) := by
  obtain ⟨-, -, hpla, -⟩ := stackAndFlagInstructionsComplete s hs
  obtain ⟨-, -, hplp, -⟩ := decidedInstructionsComplete s 0#8 0#16 hs
  have hback : sp - 1#8 + 1#8 = sp := BitVec.sub_add_cancel ..
  rw [hsp, hram, hback, read_write_stack hwf, if_pos rfl] at hpla hplp
  exact ⟨⟨_, hpla, rfl, rfl⟩, ⟨_, hplp, rfl, rfl⟩⟩

/-- Settles O26: each return pulls from the slots the push wrote; P comes back in its stored form. -/
theorem roundTripsThroughTheStack : Obligations.RoundTripsThroughTheStack := by
  intro s w hs hwf h4 h5
  obtain ⟨-, hpha, -⟩ := stackAndFlagInstructionsComplete s hs
  obtain ⟨-, hphp, -⟩ := decidedInstructionsComplete s 0#8 w hs
  obtain ⟨-, -, hbrk⟩ := trapSavesAndChanges s hs
  refine ⟨?_, fun a => ?_, fun p => ?_, ?_, ?_, ?_⟩
  · obtain ⟨-, -, hjsr, -⟩ := jumpsComplete s 0#8 w hs
    obtain ⟨t, ht, hready⟩ := exec_ready hs (.jsrAbs w)
    obtain rfl := Host.Outcome.next.inj (ht.symm.trans hjsr)
    obtain ⟨u, hu, hpc, hsp⟩ := exec_rts_of_pushed hready hwf rfl rfl
    exact ⟨_, u, ht, hu, hpc.trans (BitVec.add_assoc ..), hsp⟩
  · obtain ⟨t, ht, hready⟩ := exec_ready hs .pha
    have hst := Host.Outcome.next.inj (ht.symm.trans hpha)
    obtain ⟨⟨u, hu, ha, hsp⟩, -⟩ := exec_pull_of_pushed (s := t.setA a) hready hwf (congrArg (·.bus.ram) hst)
      (congrArg (·.cpu.s) hst)
    exact ⟨t, u, ht, hu, ha, hsp⟩
  · obtain ⟨t, ht, hready⟩ := exec_ready hs .php
    have hst := Host.Outcome.next.inj (ht.symm.trans hphp)
    obtain ⟨-, u, hu, hp, hsp⟩ := exec_pull_of_pushed (s := t.setP p) hready hwf (congrArg (·.bus.ram) hst)
      (congrArg (·.cpu.s) hst)
    exact ⟨t, u, ht, hu, hp.trans (pulled_softwarePushed h4 h5), hsp⟩
  · obtain ⟨u, hu, hpc, hp, hsp⟩ := exec_rti_of_trap ((nmiSequence_effect s).ready hs) hwf
      (congrArg (·.bus.ram) (nmiSequence_eq s)) (congrArg (·.cpu.s) (nmiSequence_eq s))
    exact ⟨u, hu, hpc, hp.trans (pulled_interruptPushed h4 h5), hsp⟩
  · obtain ⟨u, hu, hpc, hp, hsp⟩ := exec_rti_of_trap ((irqSequence_effect s).ready hs) hwf
      (congrArg (·.bus.ram) (irqSequence_eq s)) (congrArg (·.cpu.s) (irqSequence_eq s))
    exact ⟨u, hu, hpc, hp.trans (pulled_interruptPushed h4 h5), hsp⟩
  · obtain ⟨t, ht, hready⟩ := exec_ready hs .brk
    obtain rfl := Host.Outcome.next.inj (ht.symm.trans hbrk)
    obtain ⟨u, hu, hpc, hp, hsp⟩ := exec_rti_of_trap hready hwf rfl rfl
    exact ⟨_, u, ht, hu, hpc, hp.trans (pulled_softwarePushed h4 h5), hsp⟩

end Sys2Proof.Machine
end

section
/-! PROOFS. The tick and the dispatch of a step (40 R222-R227, R231, 60 R393, 70 R520), and what a fetch from plain storage
finds. -/

namespace Sys2Proof.Machine

/-! ## The latches -/

/-- Settles O28: each latch is one or two assignments. -/
theorem interruptDetection : Obligations.InterruptDetection := by
  intro c l1 l2
  refine ⟨rfl, rfl, rfl, fun h => ?_, fun h => ?_⟩
  · rw [lookahead, if_pos h]
    exact ⟨rfl, Bool.and_comm ..⟩
  · rw [lookahead, if_neg h]

/-! ## The ticks between dispatches -/

/-- The lookahead changes the two due latches alone (40 R225). -/
theorem lookahead_eq (c : Cpu) : lookahead c = { c with nmiDue := (lookahead c).nmiDue, irqDue := (lookahead c).irqDue } := by
  rw [lookahead]
  split <;> rfl

/-- A tick inside an instruction only counts down (40 R222, R231). -/
theorem actingTick_of_cyclesLeft_ne_zero {s : State} (hk : s.cpu.isKilled = false) (hc : s.cpu.cyclesLeft ≠ 0#8) :
    actingTick s = .next ((detectInterrupts s).setCpu (countdown (lookahead (detectInterrupts s).cpu))) := by
  have hidle : dispatchIfDue (detectInterrupts s) = .next (detectInterrupts s) := dispatchIfDue_of_cyclesLeft_ne_zero hc
  rw [actingTick, hk, if_neg Bool.false_ne_true, hidle]
  rfl

/-- A killed CPU does nothing at a tick (60 R393). -/
theorem actingTick_of_killed {s : State} (hk : s.cpu.isKilled = true) : actingTick s = .next s := if_pos hk

/-- Settles O5: the tick counts down or does nothing, and what follows it leaves the CPU, RAM and the cartridge alone. -/
theorem cpuIdleCycles : Obligations.CpuIdleCycles := by
  intro s t hphase h
  have hstep := step_eq (refusal_none_of_step h) hphase
  refine ⟨fun hk hc hd => ?_, fun hk => ?_⟩
  · have htick := actingTick_of_cyclesLeft_ne_zero (s := sampleInputs s) hk hc
    rw [hstep, if_neg hd, htick, andThen_next] at h
    obtain ⟨hafter, -⟩ := afterCpu_next h
    have hcpu := hafter.cpu
    rw [State.setCpu_cpu, lookahead_eq] at hcpu
    rw [hafter.ram, hafter.cart, hcpu]
    refine ⟨?_, rfl, rfl, rfl, rfl, rfl, rfl, rfl, rfl, rfl, rfl⟩
    conv_rhs => rw [lookahead_eq, ← hphase]
    rfl
  · have hafter : AfterCpuEffect (sampleInputs s) t := by
      rw [hstep] at h
      split at h
      · exact (afterCpu_next h).1
      · rw [actingTick_of_killed (s := sampleInputs s) hk, andThen_next] at h
        exact (afterCpu_next h).1
    exact ⟨hafter.cpu, hafter.ram, hafter.cart, hafter.busCycle⟩

/-! ## A fetch from plain storage -/

theorem bytesAt_succ (s : State) (a : Word) (n : Nat) : bytesAt s a (n + 1) = peek s a :: bytesAt s (a + 1#16) n := by
  have hshift (k : Nat) : a + BitVec.ofNat 16 (k + 1) = a + 1#16 + BitVec.ofNat 16 k := by
    rw [BitVec.add_assoc, Nat.add_comm, BitVec.ofNat_add]
  rw [bytesAt, List.range_succ_eq_map, List.map_cons, List.map_map, BitVec.add_zero, bytesAt]
  exact congrArg (peek s a :: ·) (List.map_congr_left fun k _ => congrArg (peek s) (hshift k))

/-- A CPU read of plain storage is the byte there (20 R103). -/
theorem memRead_plain (s : State) {a : Word} (h : storable a = true) : memRead s a = (peek s a, s) :=
  Prod.ext rfl (memRead_storable_snd s h)

/-- The bytes of plain storage are the same when RAM and the cartridge are. -/
theorem peek_plain_congr {s t : State} (hram : t.bus.ram = s.bus.ram) (hcart : t.cart = s.cart) {a : Word}
    (h : storable a = true) : peek t a = peek s a := by
  simp only [storable, Bool.or_eq_true, decide_eq_true_eq] at h
  rcases h with h | h
  · rw [peek, peek, memRead_ram t h, memRead_ram s h, hram]
  · exact peek_mapper_congr hcart h

theorem bytesAt_plain_congr {s t : State} (hram : t.bus.ram = s.bus.ram) (hcart : t.cart = s.cart) {a : Word} {n : Nat}
    (h : ∀ k < n, storable (a + BitVec.ofNat 16 k) = true) : bytesAt t a n = bytesAt s a n :=
  List.map_congr_left fun k hk => peek_plain_congr hram hcart (h k (List.mem_range.mp hk))

/-- A one-byte instruction does not look at the bytes after it (30 R190). -/
theorem decodeBytes_of_length_one {op : Byte} (h : opLength op = 1) (b c : Byte) : decodeBytes op b c = decodeBytes op 0 0 := by
  have hdecode := decode_encode (decodeBytes op b c) []
  rw [encode_decodeBytes, h, List.take_succ_cons, List.take_zero, List.append_nil, decode_one h] at hdecode
  exact (Prod.mk.inj (Except.ok.inj hdecode)).1.symm

/-- The fetch of an instruction from plain storage answers it and changes nothing (40 R226). -/
theorem fetch_plain {s : State} {n : Nat} {i : Instr} (hplain : ∀ k < n, storable (s.cpu.pc + BitVec.ofNat 16 k) = true)
    (h : decode (bytesAt s s.cpu.pc n) = .ok (i, [])) : fetch s = ⟨i, s⟩ := by
  have hread (k : Nat) (hk : k < n) := memRead_plain s (hplain k hk)
  obtain _ | n := n
  · exact nomatch h
  have h0 : memRead s s.cpu.pc = (peek s s.cpu.pc, s) := BitVec.add_zero s.cpu.pc ▸ hread 0 (Nat.succ_pos n)
  rw [bytesAt_succ] at h
  rw [fetch, h0]
  rcases opLength_cases (peek s s.cpu.pc) with h1 | h2 | h3
  · have hreads : operandReads (peek s s.cpu.pc) = 0 := by
      rw [operandReads, h1, Nat.sub_self, ite_self]
    rw [decode_one h1] at h
    obtain ⟨rfl, -⟩ := Prod.mk.inj (Except.ok.inj h)
    simp only [hreads]
    rw [decodeBytes_of_length_one h1]
  · obtain _ | n := n
    · simp only [decode, h2, bytesAt] at h
      exact nomatch h
    rw [bytesAt_succ, decode_two h2] at h
    obtain ⟨rfl, -⟩ := Prod.mk.inj (Except.ok.inj h)
    simp only [hread 1 (by omega)]
    by_cases hxaa : peek s s.cpu.pc = 0x8B#8
    · simp only [operandReads, if_pos hxaa]
      rfl
    · simp only [operandReads, if_neg hxaa, h2]
      rfl
  · obtain _ | _ | n := n
    · simp only [decode, h3, bytesAt] at h
      exact nomatch h
    · simp only [decode, h3, bytesAt] at h
      exact nomatch h
    have hxaa : peek s s.cpu.pc ≠ 0x8B#8 := fun he => by
      rw [he] at h3
      exact absurd h3 (by decide)
    rw [bytesAt_succ, bytesAt_succ, decode_three h3, BitVec.add_assoc] at h
    obtain ⟨rfl, -⟩ := Prod.mk.inj (Except.ok.inj h)
    simp only [hread 1 (by omega), hread 2 (by omega), operandReads, if_neg hxaa, h3]
    rfl

/-! ## The dispatch of a step -/

/-- The acting tick at a dispatch (40 R222). -/
theorem actingTick_of_due {s : State} (hk : s.cpu.isKilled = false) (hc : s.cpu.cyclesLeft = 0#8) : actingTick s =
    andThen (dispatch (detectInterrupts s)) fun t => .next (t.setCpu (countdown (lookahead t.cpu))) := by
  have hdue : dispatchIfDue (detectInterrupts s) = dispatch (detectInterrupts s) := if_pos hc
  rw [actingTick, hk, if_neg Bool.false_ne_true, hdue]

/-- Settles O4: the CPU's part of the step is its dispatch, whose fetch sees the bytes of plain storage as they were. -/
theorem stepRunsDecodedInstruction : Obligations.StepRunsDecodedInstruction := by
  intro s hnone hphase hk hc hd
  have hstep : step s = andThen (dispatch s.atDispatch) afterDispatch := by
    rw [step_eq hnone hphase, if_neg hd, actingTick_of_due (s := sampleInputs s) hk hc, andThen_assoc]
    rfl
  refine ⟨hstep, fun hnmi hirq => ?_⟩
  have hnmi' : ¬ s.atDispatch.cpu.nmiDue = true := Bool.not_eq_true _ ▸ hnmi
  have hirq' : ¬ s.atDispatch.cpu.irqDue = true := Bool.not_eq_true _ ▸ hirq
  rw [hstep, dispatch, if_neg hnmi', if_neg hirq']
  refine ⟨rfl, fun n i hplain hdecode _ => ?_⟩
  have hbytes : bytesAt s.atDispatch s.cpu.pc n = bytesAt s s.cpu.pc n :=
    bytesAt_plain_congr (s := s) (t := s.atDispatch) rfl rfl hplain
  have hfetch : fetch s.atDispatch = ⟨i, s.atDispatch⟩ := fetch_plain hplain (hbytes ▸ hdecode)
  rw [hfetch]

end Sys2Proof.Machine
end

section
/-! PROOFS. OAM DMA (20 R118-R122): one step of the engine, and the whole transfer. -/

namespace Sys2Proof.Machine

/-! ## One step of the engine -/

/-- WAITING ends when the next cycle number is even (20 R118). -/
theorem dmaWait_eq (b : Bus) : dmaWait b =
    if (b.busCycle.toNat + 1) % 2 = 0 then { b with dmaState := .running } else b := by
  have hodd : (b.busCycle + 1#64).getLsbD 0 = decide ((b.busCycle.toNat + 1) % 2 = 1) := by
    rw [← BitVec.testBit_toNat, Nat.testBit_zero, BitVec.toNat_add, BitVec.toNat_ofNat]
    exact decide_eq_decide.mpr (by omega)
  rw [dmaWait, hodd]
  rcases Nat.mod_two_eq_zero_or_one (b.busCycle.toNat + 1) with h | h <;> simp [h]

/-- The write half puts the byte at OamAddr and counts it (20 R119, R120). -/
theorem dmaWriteStep_eq (s : State) : dmaWriteStep s = (s.setPpu { s.ppu with
      oam := Memory.write s.ppu.oam s.ppu.oamAddr.toNat s.bus.dmaData
      oamAddr := s.ppu.oamAddr + 1#8, oamDataReg := ⟨s.ppu.oamDataReg.current, s.bus.dmaData⟩ }).setBus { s.bus with
      dmaCount := s.bus.dmaCount + 1, dmaReadPhase := true
      dmaState := if s.bus.dmaCount = 255 then .idle else s.bus.dmaState } := by
  have hlast : s.bus.dmaCount + 1 = 256 ↔ s.bus.dmaCount = 255 := by omega
  rw [dmaWriteStep, memWrite_2004]
  simp only [dmaAfterWrite, State.setPpu_bus, hlast]
  rfl

/-- The read half fetches a byte through the CPU decode (20 R119). -/
theorem dmaReadStep_eq (s : State) :
    dmaReadStep s = (memRead s (s.bus.dmaBase + BitVec.ofNat 16 s.bus.dmaCount)).2.setBus { s.bus with
      dmaData := peek s (s.bus.dmaBase + BitVec.ofNat 16 s.bus.dmaCount), dmaReadPhase := false } := by
  rw [dmaReadStep, (memRead_effect s (s.bus.dmaBase + BitVec.ofNat 16 s.bus.dmaCount)).bus]
  rfl

theorem dmaStep_running {s : State} (h : s.bus.dmaState = .running) :
    dmaStep s = if s.bus.dmaReadPhase then dmaReadStep s else dmaWriteStep s := by
  rw [dmaStep, h]

/-- Settles O30: the engine's step, by its state and its phase. -/
theorem dmaStepCases : Obligations.DmaStepCases := by
  intro s
  refine ⟨fun h => ?_, fun h => ?_, fun h hphase => ?_, fun h hphase _ => ?_⟩
  · rw [dmaStep, h]
  · rw [dmaStep, h]
    show s.setBus (dmaWait s.bus) = _
    rw [dmaWait_eq]
    split <;> rfl
  · rw [dmaStep_running h, if_pos hphase, dmaReadStep_eq]
  · rw [dmaStep_running h, hphase, if_neg Bool.false_ne_true, dmaWriteStep_eq, h]

/-! ## A step of the machine while DMA runs -/

/-- The dots leave OAM and its address alone (61 R421). -/
theorem ppuDots_oam (s : State) : (ppuDots s).ppu.oam = s.ppu.oam ∧ (ppuDots s).ppu.oamAddr = s.ppu.oamAddr := by
  have hdot (j : Nat) (u : State) : (ppuDotAt j u).ppu.oam = u.ppu.oam ∧ (ppuDotAt j u).ppu.oamAddr = u.ppu.oamAddr := by
    obtain ⟨hoam, -, -, -, -, haddr⟩ := dotFinish_registers (renderingEnabled u.ppu)
      (dotBody (renderingEnabled u.ppu) (dotStart j u))
    have hbody := (dotBodyAt_effect j u).ppu
    exact ⟨hoam.trans hbody.oam, haddr.trans hbody.oamAddr⟩
  exact ⟨(hdot 2 _).1.trans ((hdot 1 _).1.trans (hdot 0 s).1), (hdot 2 _).2.trans ((hdot 1 _).2.trans (hdot 0 s).2)⟩

/-- What a step of a ready state does while DMA runs, in terms of the engine's step (20 R121, 70 R520). -/
structure RunningStep (s t : State) : Prop where
  ready    : t.Ready
  cpu      : t.cpu = s.cpu
  cart     : t.cart = s.cart
  bus      : t.bus = { (dmaStep (sampleInputs s)).bus with nmiLine := t.bus.nmiLine, busCycle := s.bus.busCycle + 1#64 }
  oam      : t.ppu.oam = (dmaStep (sampleInputs s)).ppu.oam
  oamAddr  : t.ppu.oamAddr = (dmaStep (sampleInputs s)).ppu.oamAddr

theorem step_running {s : State} (hs : s.Ready) (hd : s.bus.dmaState = .running) :
    ∃ t, step s = .next t ∧ RunningStep s t := by
  obtain ⟨t, ht, hready⟩ := step_answers hs
  have hrun : cpuPart (sampleInputs s) = .next (sampleInputs s) := cpuPart_running hd
  have hafter := ht
  rw [step_eq_cpuPart hs.1, hrun, andThen_next] at hafter
  obtain ⟨heffect, -⟩ := afterCpu_next hafter
  obtain ⟨-, hcount⟩ := finish_eq_next.mp hafter
  obtain ⟨hoam, haddr⟩ := ppuDots_oam (dmaStep (sampleInputs s))
  have hcycle := (dmaStep_effect (sampleInputs s)).bus
  refine ⟨t, ht, hready, heffect.cpu, heffect.cart, ?_, hcount ▸ hoam, hcount ▸ haddr⟩
  have hbus : t.bus = { (ppuDots (dmaStep (sampleInputs s))).bus with
      busCycle := (ppuDots (dmaStep (sampleInputs s))).bus.busCycle + 1#64 } := congrArg State.bus hcount.symm
  have hk : (dmaStep (sampleInputs s)).bus.busCycle = s.bus.busCycle := by
    rw [hcycle]
    rfl
  rw [(ppuDots_effect (dmaStep (sampleInputs s))).bus, hk] at hbus
  rw [hbus]

/-! ## The whole transfer -/

/-- The transfer from `s` has copied `k` bytes in `c` steps (20 R119, R120). -/
structure Copied (s : State) (k c : Nat) (t : State) : Prop where
  ready  : t.Ready
  cpu    : t.cpu = s.cpu
  cart   : t.cart = s.cart
  ram    : t.bus.ram = s.bus.ram
  base   : t.bus.dmaBase = s.bus.dmaBase
  count  : t.bus.dmaCount = k
  cycles : t.bus.busCycle = s.bus.busCycle + BitVec.ofNat 64 c
  wf     : Memory.wf t.ppu.oam
  addr   : t.ppu.oamAddr = s.ppu.oamAddr + BitVec.ofNat 8 k
  bytes  : ∀ i < k, Memory.read t.ppu.oam ((s.ppu.oamAddr.toNat + i) % 256) = peek s (s.bus.dmaBase + BitVec.ofNat 16 i)

theorem add_ofNat_one {w : Nat} (x : BitVec w) (n : Nat) : x + BitVec.ofNat w n + 1#w = x + BitVec.ofNat w (n + 1) := by
  rw [BitVec.add_assoc, BitVec.ofNat_add]

/-- The read half of a byte (20 R119). -/
theorem Copied.read {s t : State} {k c : Nat} (h : Copied s k c t) (hd : t.bus.dmaState = .running)
    (hphase : t.bus.dmaReadPhase = true) (hplain : storable (s.bus.dmaBase + BitVec.ofNat 16 k) = true) :
    ∃ u, step t = .next u ∧ Copied s k (c + 1) u ∧ u.bus.dmaState = .running ∧ u.bus.dmaReadPhase = false ∧
      u.bus.dmaData = peek s (s.bus.dmaBase + BitVec.ofNat 16 k) := by
  obtain ⟨u, hu, hstep⟩ := step_running h.ready hd
  have haddress : (sampleInputs t).bus.dmaBase + BitVec.ofNat 16 (sampleInputs t).bus.dmaCount =
      s.bus.dmaBase + BitVec.ofNat 16 k := congrArg₂ (fun b n => b + BitVec.ofNat 16 n) h.base h.count
  have hpeek : peek (sampleInputs t) (s.bus.dmaBase + BitVec.ofNat 16 k) = peek s (s.bus.dmaBase + BitVec.ofNat 16 k) :=
    peek_plain_congr (t := sampleInputs t) h.ram h.cart hplain
  have hengine : dmaStep (sampleInputs t) = (sampleInputs t).setBus { (sampleInputs t).bus with
      dmaData := peek s (s.bus.dmaBase + BitVec.ofNat 16 k), dmaReadPhase := false } := by
    rw [dmaStep_running (s := sampleInputs t) hd, if_pos (show (sampleInputs t).bus.dmaReadPhase = true from hphase),
      dmaReadStep_eq, haddress, memRead_plain _ hplain, hpeek]
  have hbus := hstep.bus
  have hoam := hstep.oam
  have haddr := hstep.oamAddr
  rw [hengine] at hbus hoam haddr
  refine ⟨u, hu, ⟨hstep.ready, hstep.cpu.trans h.cpu, hstep.cart.trans h.cart, ?_, ?_, ?_, ?_, ?_, haddr.trans h.addr, ?_⟩, ?_⟩
  · exact (congrArg Bus.ram hbus).trans h.ram
  · exact (congrArg Bus.dmaBase hbus).trans h.base
  · exact (congrArg Bus.dmaCount hbus).trans h.count
  · rw [← add_ofNat_one, ← h.cycles]
    exact congrArg Bus.busCycle hbus
  · rw [hoam]
    exact h.wf
  · rw [hoam]
    exact h.bytes
  · exact ⟨(congrArg Bus.dmaState hbus).trans hd, congrArg Bus.dmaReadPhase hbus, congrArg Bus.dmaData hbus⟩

/-- The write half of a byte (20 R119, R120). -/
theorem Copied.write {s t : State} {k c : Nat} (h : Copied s k c t) (hd : t.bus.dmaState = .running)
    (hphase : t.bus.dmaReadPhase = false) (hdata : t.bus.dmaData = peek s (s.bus.dmaBase + BitVec.ofNat 16 k)) (hk : k < 256) :
    ∃ u, step t = .next u ∧ Copied s (k + 1) (c + 1) u ∧ u.bus.dmaReadPhase = true ∧
      u.bus.dmaState = if k + 1 = 256 then .idle else .running := by
  obtain ⟨u, hu, hstep⟩ := step_running h.ready hd
  have hbus := hstep.bus
  have hoam := hstep.oam
  have haddr := hstep.oamAddr
  have hread : ¬ (sampleInputs t).bus.dmaReadPhase = true := Bool.not_eq_true _ ▸ hphase
  rw [dmaStep_running (s := sampleInputs t) hd, if_neg hread, dmaWriteStep_eq] at hbus hoam haddr
  have hoam' : u.ppu.oam = Memory.write t.ppu.oam t.ppu.oamAddr.toNat t.bus.dmaData := hoam
  have hslot : t.ppu.oamAddr.toNat = (s.ppu.oamAddr.toNat + k) % 256 := by
    rw [h.addr, BitVec.toNat_add, BitVec.toNat_ofNat]
    omega
  refine ⟨u, hu, ⟨hstep.ready, hstep.cpu.trans h.cpu, hstep.cart.trans h.cart, ?_, ?_, ?_, ?_, ?_, ?_, fun i hi => ?_⟩, ?_, ?_⟩
  · exact (congrArg Bus.ram hbus).trans h.ram
  · exact (congrArg Bus.dmaBase hbus).trans h.base
  · exact (congrArg Bus.dmaCount hbus).trans (congrArg (· + 1) h.count)
  · rw [← add_ofNat_one, ← h.cycles]
    exact congrArg Bus.busCycle hbus
  · rw [hoam']
    exact Memory.write_wf _ _ h.wf
  · rw [← add_ofNat_one, ← h.addr]
    exact haddr
  · rw [hoam', Memory.read_write _ _ _ _ h.wf, hslot, hdata]
    by_cases hik : i = k
    · rw [hik, if_pos rfl]
    · rw [if_neg (by omega), h.bytes i (by omega)]
  · exact congrArg Bus.dmaReadPhase hbus
  · have hlast : t.bus.dmaCount = 255 ↔ k + 1 = 256 := by
      rw [h.count]
      omega
    rw [← hd]
    exact (congrArg Bus.dmaState hbus).trans (ite_congr (propext hlast) (fun _ => rfl) (fun _ => rfl))

/-- Two steps copy a byte. -/
theorem Copied.next {s t : State} {k : Nat} (h : Copied s k (2 * k) t) (hd : t.bus.dmaState = .running)
    (hphase : t.bus.dmaReadPhase = true) (hplain : storable (s.bus.dmaBase + BitVec.ofNat 16 k) = true) (hk : k < 256) :
    ∃ u, runSteps 2 t = .next u ∧ Copied s (k + 1) (2 * (k + 1)) u ∧ u.bus.dmaReadPhase = true ∧
      u.bus.dmaState = if k + 1 = 256 then .idle else .running := by
  obtain ⟨v, hv, hread, hd', hphase', hdata⟩ := h.read hd hphase hplain
  obtain ⟨u, hu, hwrite⟩ := hread.write hd' hphase' hdata hk
  refine ⟨u, ?_, hwrite⟩
  rw [runSteps, hv, andThen_next, runSteps, hu]
  rfl

theorem runSteps_add (m n : Nat) : ∀ s : State, runSteps (m + n) s = andThen (runSteps m s) (runSteps n) := by
  induction m with
  | zero =>
    intro s
    rw [Nat.zero_add]
    rfl
  | succ m ih =>
    intro s
    rw [Nat.succ_add, runSteps, runSteps, andThen_assoc]
    exact congrArg (andThen (step s)) (funext ih)

/-- After `2k` steps `k` bytes are copied. -/
theorem runSteps_copied {s : State} (h0 : Copied s 0 0 s) (hd : s.bus.dmaState = .running)
    (hphase : s.bus.dmaReadPhase = true) (hplain : ∀ k < 256, storable (s.bus.dmaBase + BitVec.ofNat 16 k) = true) (k : Nat) :
    k ≤ 256 → ∃ t, runSteps (2 * k) s = .next t ∧ Copied s k (2 * k) t ∧ t.bus.dmaReadPhase = true ∧
      t.bus.dmaState = if k = 256 then .idle else .running := by
  induction k with
  | zero => exact fun _ => ⟨s, rfl, h0, hphase, hd⟩
  | succ k ih =>
    intro hk
    obtain ⟨t, ht, hcopied, hphase', hd'⟩ := ih (by omega)
    rw [if_neg (by omega)] at hd'
    obtain ⟨u, hu, hnext⟩ := hcopied.next hd' hphase' (hplain k (by omega)) (by omega)
    refine ⟨u, ?_, hnext⟩
    rw [Nat.mul_succ, runSteps_add, ht, andThen_next, hu]

/-- Settles O31: 256 bytes are copied, two steps for each. -/
theorem dmaCopiesPage : Obligations.DmaCopiesPage := by
  intro s hs hwf hd hcount hphase hplain
  have h0 : Copied s 0 0 s := ⟨hs, rfl, rfl, rfl, rfl, hcount, (BitVec.add_zero _).symm, hwf, (BitVec.add_zero _).symm, nofun⟩
  obtain ⟨t, ht, hcopied, -, hidle⟩ := runSteps_copied h0 hd hphase hplain 256 le_rfl
  exact ⟨t, ht, hidle, hcopied.count, hcopied.bytes, hcopied.addr.trans (BitVec.add_zero _), hcopied.cpu, hcopied.ram,
    hcopied.cart, hcopied.cycles⟩

end Sys2Proof.Machine
end

section
/-! PROOFS. MMC1's serial port (21 R170), the scroll and address registers (61 R428, R434, R435), the reads of the PPU's
registers (61 R430-R433, R437) and the vertical V updates (61 R441-R443). -/

namespace Sys2Proof.Machine

/-! ## MMC1's serial port -/

/-- Under MMC1 a CPU write from `0x8000` up is a serial write (21 R170). -/
theorem memWrite_mmc1 {s : State} (hm : s.cart.mapper = .mmc1) {a : Word} (h8 : 0x8000 ≤ a.toNat) (v : Byte) :
    memWrite s a v = { s with cart := mmc1Serial s.cart a v } := by
  have h6 : ¬ a.toNat < 0x6000 := by omega
  simp only [memWrite, mapperWriteCpu, word_lt_iff, Nat.reducePow, Nat.reduceLT, if_neg h6, if_neg (Nat.not_lt.mpr h8), hm]

/-- The register a commit loads, by bits 14:13 of the address (21 R170). -/
theorem mmc1Commit_eq (c : Cart) (a : Word) (v : BitVec 5) : mmc1Commit c a v =
    if a.toNat / 0x2000 % 4 = 0 then { c with control := v }
    else if a.toNat / 0x2000 % 4 = 1 then { c with chrBank0 := v }
    else if a.toNat / 0x2000 % 4 = 2 then { c with chrBank1 := v }
    else { c with prgBank := v } := by
  have hnum : (a.extractLsb' 13 2).toNat = a.toNat / 0x2000 % 4 := by
    rw [BitVec.extractLsb'_toNat, Nat.shiftRight_eq_div_pow]
  have hne (k : BitVec 2) (h : a.extractLsb' 13 2 ≠ k) : a.toNat / 0x2000 % 4 ≠ k.toNat := fun he =>
    h (BitVec.eq_of_toNat_eq (hnum.trans he))
  unfold mmc1Commit
  split
  case h_1 h | h_2 h | h_3 h =>
    rw [← hnum, h]
    rfl
  case h_4 h0 h1 h2 =>
    exact ((if_neg (hne 0#2 h0)).trans ((if_neg (hne 1#2 h1)).trans (if_neg (hne 2#2 h2)))).symm

/-- The shift register after one bit (21 R170). -/
def shiftBit (sh : BitVec 5) (b : Bool) : BitVec 5 := (sh >>> 1) ||| (if b then 0x10#5 else 0#5)

/-- A state with its shift register at `sh`. -/
def State.withShift (s : State) (sh : BitVec 5) : State := { s with cart := { s.cart with shift := sh } }

/-- A data bit before the marker reaches bit 0 only shifts (21 R170). -/
theorem memWrite_shift {s : State} (hm : s.cart.mapper = .mmc1) {a : Word} (h8 : 0x8000 ≤ a.toNat) {v : Byte}
    (h7 : v.getLsbD 7 = false) {sh : BitVec 5} (h0 : sh.getLsbD 0 = false) :
    memWrite (s.withShift sh) a v = s.withShift (shiftBit sh (v.getLsbD 0)) := by
  have h0' : ¬ (s.withShift sh).cart.shift.getLsbD 0 = true := Bool.not_eq_true _ ▸ h0
  rw [memWrite_mmc1 (s := s.withShift sh) hm h8, mmc1Serial, h7, if_neg Bool.false_ne_true, if_neg h0']
  rfl

/-- The data bit after that commits (21 R170). -/
theorem memWrite_commit {s : State} (hm : s.cart.mapper = .mmc1) {a : Word} (h8 : 0x8000 ≤ a.toNat) {v : Byte}
    (h7 : v.getLsbD 7 = false) {sh : BitVec 5} (h0 : sh.getLsbD 0 = true) : memWrite (s.withShift sh) a v =
      { s with cart := { mmc1Commit s.cart a (shiftBit sh (v.getLsbD 0)) with shift := 0x10#5 } } := by
  have h0' : (s.withShift sh).cart.shift.getLsbD 0 = true := h0
  rw [memWrite_mmc1 (s := s.withShift sh) hm h8, mmc1Serial, h7, if_neg Bool.false_ne_true, if_pos h0', mmc1Commit_eq,
    mmc1Commit_eq]
  split_ifs <;> rfl

/-- From a fresh shift register the marker reaches bit 0 with the fourth bit, and the fifth completes the value. -/
theorem shiftBit_five (b1 b2 b3 b4 b5 : Bool) :
    (0x10#5).getLsbD 0 = false ∧ (shiftBit 0x10#5 b1).getLsbD 0 = false ∧
    (shiftBit (shiftBit 0x10#5 b1) b2).getLsbD 0 = false ∧
    (shiftBit (shiftBit (shiftBit 0x10#5 b1) b2) b3).getLsbD 0 = false ∧
    (shiftBit (shiftBit (shiftBit (shiftBit 0x10#5 b1) b2) b3) b4).getLsbD 0 = true ∧
    (shiftBit (shiftBit (shiftBit (shiftBit (shiftBit 0x10#5 b1) b2) b3) b4) b5).toNat =
      b1.toNat + b2.toNat * 2 + b3.toNat * 4 + b4.toNat * 8 + b5.toNat * 16 := by
  revert b1 b2 b3 b4 b5
  decide

theorem byte_mod_two (v : Byte) : v.toNat % 2 = (v.getLsbD 0).toNat := by
  rw [byte_bit0]
  rcases Nat.mod_two_eq_zero_or_one v.toNat with h | h <;> simp [h]

/-- Settles O38: four bits shift in, the fifth commits. -/
theorem mmc1SerialPort : Obligations.Mmc1SerialPort := by
  intro s a1 a2 a3 a4 a5 v1 v2 v3 v4 v5 hm ha
  simp only [List.forall_mem_cons, List.not_mem_nil, false_imp_iff, implies_true, and_true] at ha ⊢
  obtain ⟨ha1, ha2, ha3, ha4, ha5⟩ := ha
  refine ⟨fun ⟨h1, h2, h3, h4, h5⟩ hshift value hvalue => ?_, fun h7 => ?_⟩
  · obtain ⟨m0, m1, m2, m3, m4, hfive⟩ :=
      shiftBit_five (v1.getLsbD 0) (v2.getLsbD 0) (v3.getLsbD 0) (v4.getLsbD 0) (v5.getLsbD 0)
    simp only [byte_mod_two] at hvalue
    obtain rfl := BitVec.eq_of_toNat_eq (hvalue.trans hfive.symm)
    have hfresh : s = s.withShift 0x10#5 := by
      rw [← hshift]
      rfl
    rw [hfresh, memWrite_shift hm ha1 h1 m0, memWrite_shift hm ha2 h2 m1, memWrite_shift hm ha3 h3 m2,
      memWrite_shift hm ha4 h4 m3, memWrite_commit hm ha5 h5 m4, mmc1Commit_eq]
    split_ifs <;> rfl
  · rw [memWrite_mmc1 hm ha1, mmc1Serial, if_pos h7]

/-! ## The fields of V and T -/

/-- A field of a word as a number. -/
theorem field_toNat {w : Nat} (x : BitVec w) (k n : Nat) : (x.extractLsb' k n).toNat = x.toNat / 2 ^ k % 2 ^ n := by
  rw [BitVec.extractLsb'_toNat, Nat.shiftRight_eq_div_pow]

/-- Of two words merged by a mask, each bit comes from one. -/
theorem merge_getLsbD {w : Nat} (v t m : BitVec w) {k : Nat} (hk : k < w) :
    ((v &&& ~~~m) ||| (t &&& m)).getLsbD k = if m.getLsbD k then t.getLsbD k else v.getLsbD k := by
  rw [BitVec.getLsbD_or, BitVec.getLsbD_and, BitVec.getLsbD_and, BitVec.getLsbD_not, decide_eq_true hk]
  cases m.getLsbD k <;> simp

/-- Clearing a field takes it off, in numbers. -/
theorem clear_field_toNat {w : Nat} (x m : BitVec w) {k n : Nat} (hm : m.toNat = (2 ^ n - 1) <<< k) :
    (x &&& ~~~m).toNat = x.toNat - x.toNat / 2 ^ k % 2 ^ n * 2 ^ k := by
  have h := toNat_eq_outside_add_under x m
  rw [BitVec.toNat_and x m, hm, and_field_eq] at h
  omega

/-- Putting coarse Y in place, in numbers (61 R441). -/
theorem setCoarseY_toNat (v : VAddr) (y : BitVec 5) :
    (setCoarseY v y).toNat = v.toNat - v.toNat / 32 % 32 * 32 + y.toNat * 32 := by
  have hy := y.isLt
  have hput : (y.setWidth 15 <<< 5).toNat = y.toNat * 32 := by
    rw [BitVec.toNat_shiftLeft, BitVec.toNat_setWidth, Nat.shiftLeft_eq]
    omega
  have hdisjoint : (v &&& ~~~0x03E0#15) &&& (y.setWidth 15 <<< 5) = 0#15 := by
    refine BitVec.eq_of_getLsbD_eq fun k hk => ?_
    interval_cases k <;> simp
  rw [setCoarseY, toNat_or_of_disjoint hdisjoint, clear_field_toNat v 0x03E0#15 (k := 5) (n := 5) rfl, hput]
  rfl

/-! ## The vertical V updates -/

/-- IncrementY below fine Y 7, and at it by coarse Y, in numbers (61 R441). -/
theorem incrementY_toNat (v : VAddr) : (incrementY v).toNat =
    if v.toNat / 4096 < 7 then v.toNat + 4096
    else if v.toNat / 32 % 32 = 29 then
      (if v.toNat / 2048 % 2 = 1 then v.toNat % 4096 - 2048 else v.toNat % 4096 + 2048) - 29 * 32
    else v.toNat % 4096 - v.toNat / 32 % 32 * 32 + (v.toNat / 32 % 32 + 1) % 32 * 32 := by
  have hv := v.isLt
  have hfine : v.extractLsb' 12 3 < 7#3 ↔ v.toNat / 4096 < 7 := by
    rw [BitVec.lt_def, field_toNat]
    show v.toNat / 4096 % 8 < 7 ↔ _
    omega
  have hcoarse : (v.extractLsb' 5 5).toNat = v.toNat / 32 % 32 := field_toNat v 5 5
  have hrow (k : BitVec 5) : v.extractLsb' 5 5 = k ↔ v.toNat / 32 % 32 = k.toNat := by
    rw [← BitVec.toNat_inj, hcoarse]
  have hclear : (v &&& ~~~0x7000#15).toNat = v.toNat % 4096 := by
    rw [clear_field_toNat v 0x7000#15 (k := 12) (n := 3) rfl]
    omega
  have htoggle : ((v &&& ~~~0x7000#15) ^^^ 0x0800#15).toNat =
      if v.toNat / 2048 % 2 = 1 then v.toNat % 4096 - 2048 else v.toNat % 4096 + 2048 := by
    have hbit : v.toNat % 4096 / 2 ^ 11 % 2 = v.toNat / 2048 % 2 := by omega
    rw [BitVec.toNat_xor, hclear]
    exact (xor_two_pow_eq _ 11).trans (by rw [hbit]; rfl)
  rw [incrementY]
  by_cases h7 : v.toNat / 4096 < 7
  · rw [if_pos (hfine.mpr h7), if_pos h7, BitVec.toNat_add]
    show (v.toNat + 4096) % 32768 = _
    omega
  · rw [if_neg (mt hfine.mp h7), if_neg h7]
    by_cases h29 : v.toNat / 32 % 32 = 29
    · rw [if_pos ((hrow 29#5).mpr h29), if_pos h29, setCoarseY_toNat, htoggle]
      show _ - _ + 0 * 32 = _
      split <;> omega
    · rw [if_neg (mt (hrow 29#5).mp h29), if_neg h29]
      by_cases h31 : v.toNat / 32 % 32 = 31
      · rw [if_pos ((hrow 31#5).mpr h31), setCoarseY_toNat, hclear]
        show _ - _ + 0 * 32 = _
        omega
      · rw [if_neg (mt (hrow 31#5).mp h31), setCoarseY_toNat, hclear, BitVec.toNat_add, hcoarse]
        show _ - _ + (_ + 1) % 32 * 32 = _
        omega

/-- Settles O45: IncrementY in numbers, the copies bit by bit. -/
theorem verticalScrollUpdates : Obligations.VerticalScrollUpdates := by
  rintro v t fineY coarseY nt rfl rfl rfl
  have hv := v.isLt
  have hnum := incrementY_toNat v
  have hhorizontal : ∀ k < 15, (0x041F#15).getLsbD k = decide (k < 5 ∨ k = 10) := by decide
  have hvertical : ∀ k < 15, (0x7BE0#15).getLsbD k = !decide (k < 5 ∨ k = 10) := by decide
  refine ⟨?_, ?_, ?_, ?_, fun k hk => ?_, fun k hk => ?_⟩
  · split_ifs at hnum <;> omega
  · split_ifs at hnum <;> omega
  · split_ifs at hnum ⊢ <;> omega
  · split_ifs at hnum ⊢ <;> omega
  · rw [copyHorizontal, merge_getLsbD v t _ hk, hhorizontal k hk]
    exact ite_congr (propext decide_eq_true_iff) (fun _ => rfl) (fun _ => rfl)
  · rw [copyVertical, merge_getLsbD v t _ hk, hvertical k hk]
    by_cases h : k < 5 ∨ k = 10 <;> simp [h]

/-! ## The scroll and address writes -/

/-- Fields with the same bits are the same numbers. -/
theorem field_eq {w u : Nat} {x : BitVec w} {y : BitVec u} (k l n : Nat)
    (h : ∀ i < n, x.getLsbD (k + i) = y.getLsbD (l + i)) : x.toNat / 2 ^ k % 2 ^ n = y.toNat / 2 ^ l % 2 ^ n := by
  rw [← field_toNat, ← field_toNat]
  refine congrArg BitVec.toNat (BitVec.eq_of_getLsbD_eq fun i hi => ?_)
  rw [BitVec.getLsbD_extractLsb', BitVec.getLsbD_extractLsb', h i hi]

/-- T after the first and the second scroll write (61 R434). -/
def scrollT (t : VAddr) (v1 v2 : Byte) : VAddr :=
  (((t &&& ~~~0x001F#15) ||| (v1 >>> 3).setWidth 15) &&& ~~~0x73E0#15) ||| ((v2 &&& 7#8).setWidth 15 <<< 12) |||
    ((v2 >>> 3).setWidth 15 <<< 5)

theorem scrollT_getLsbD (t : VAddr) (v1 v2 : Byte) {k : Nat} (hk : k < 15) : (scrollT t v1 v2).getLsbD k =
    if k < 5 then v1.getLsbD (k + 3) else if k < 10 then v2.getLsbD (k - 2) else if k < 12 then t.getLsbD k
    else v2.getLsbD (k - 12) := by
  rw [scrollT]
  interval_cases k <;> simp

/-- T after the first and the second address write (61 R435). -/
def addrT (t : VAddr) (v1 v2 : Byte) : VAddr :=
  addrWriteLow ((t &&& 0x00FF#15) ||| ((v1 &&& 0x3F#8).setWidth 15 <<< 8)) v2

theorem addrT_getLsbD (t : VAddr) (v1 v2 : Byte) {k : Nat} (hk : k < 15) : (addrT t v1 v2).getLsbD k =
    if k < 8 then v2.getLsbD k else if k < 14 then v1.getLsbD (k - 8) else false := by
  rw [addrT, addrWriteLow]
  interval_cases k <;> simp

/-- T after a control write (61 R428). -/
theorem ctrlWriteT_getLsbD (t : VAddr) (v : Byte) {k : Nat} (hk : k < 15) : (ctrlWriteT t v).getLsbD k =
    if k = 10 ∨ k = 11 then v.getLsbD (k - 10) else t.getLsbD k := by
  rw [ctrlWriteT]
  interval_cases k <;> simp

theorem memWrite_2005 (s : State) (v : Byte) : memWrite s 0x2005#16 v =
    s.setPpu { scrollWrite s.ppu v with scrollReg := s.ppu.scrollReg.write v } := memWrite_ppuReg s (by decide) (by decide) v

theorem memWrite_2006 (s : State) (v : Byte) : memWrite s 0x2006#16 v = s.setPpu (addrWrite s.ppu v) :=
  memWrite_ppuReg s (by decide) (by decide) v

theorem memWrite_2000 (s : State) (v : Byte) : memWrite s 0x2000#16 v =
    s.setPpu { s.ppu with ctrl := s.ppu.ctrl.write v, t := ctrlWriteT s.ppu.t v } :=
  memWrite_ppuReg s (by decide) (by decide) v

/-- The PPU after the two writes of a pair to `0x2005` (61 R434). -/
theorem memWrite_2005_pair {s : State} (hw : s.ppu.w = false) (v1 v2 : Byte) :
    (memWrite (memWrite s 0x2005#16 v1) 0x2005#16 v2).ppu = { s.ppu with
      t := scrollT s.ppu.t v1 v2, x := v1.setWidth 3, w := false, scrollReg := ⟨s.ppu.scrollReg.current, v2⟩ } := by
  rw [memWrite_2005, memWrite_2005, State.setPpu_ppu, State.setPpu_ppu, scrollWrite, scrollWrite, hw,
    if_neg Bool.false_ne_true]
  rfl

/-- The PPU after the two writes of a pair to `0x2006` (61 R435). -/
theorem memWrite_2006_pair {s : State} (hw : s.ppu.w = false) (v1 v2 : Byte) :
    (memWrite (memWrite s 0x2006#16 v1) 0x2006#16 v2).ppu = { s.ppu with
      t := addrT s.ppu.t v1 v2, v := addrT s.ppu.t v1 v2, w := false } := by
  rw [memWrite_2006, memWrite_2006, State.setPpu_ppu, State.setPpu_ppu, addrWrite, addrWrite, hw,
    if_neg Bool.false_ne_true]
  rfl

/-- The fields of T after a pair of scroll writes, in numbers. -/
theorem scrollT_fields (t : VAddr) (v1 v2 : Byte) :
    (scrollT t v1 v2).toNat % 32 = v1.toNat / 8 ∧ (scrollT t v1 v2).toNat / 32 % 32 = v2.toNat / 8 ∧
    (scrollT t v1 v2).toNat / 4096 = v2.toNat % 8 ∧ (scrollT t v1 v2).toNat / 1024 % 4 = t.toNat / 1024 % 4 := by
  have hT := (scrollT t v1 v2).isLt
  have hv1 := v1.isLt
  have hv2 := v2.isLt
  have hbit (k : Nat) (hk : k < 15) := scrollT_getLsbD t v1 v2 hk
  have hx := field_eq (x := scrollT t v1 v2) (y := v1) 0 3 5 fun i hi => by
    rw [hbit _ (by omega), if_pos (by omega)]
    exact congrArg _ (by omega)
  have hy := field_eq (x := scrollT t v1 v2) (y := v2) 5 3 5 fun i hi => by
    rw [hbit _ (by omega), if_neg (by omega), if_pos (by omega)]
    exact congrArg _ (by omega)
  have hfine := field_eq (x := scrollT t v1 v2) (y := v2) 12 0 3 fun i hi => by
    rw [hbit _ (by omega), if_neg (by omega), if_neg (by omega), if_neg (by omega)]
    exact congrArg _ (by omega)
  have hnt := field_eq (x := scrollT t v1 v2) (y := t) 10 10 2 fun i hi => by
    rw [hbit _ (by omega), if_neg (by omega), if_neg (by omega), if_pos (by omega)]
  omega

/-- T after a pair of address writes, as a number. -/
theorem addrT_toNat (t : VAddr) (v1 v2 : Byte) : (addrT t v1 v2).toNat = v1.toNat % 64 * 256 + v2.toNat := by
  have hT := (addrT t v1 v2).isLt
  have hv2 := v2.isLt
  have hbit (k : Nat) (hk : k < 15) := addrT_getLsbD t v1 v2 hk
  have hlow := field_eq (x := addrT t v1 v2) (y := v2) 0 0 8 fun i hi => by
    rw [hbit _ (by omega), if_pos (by omega)]
  have hhigh := field_eq (x := addrT t v1 v2) (y := v1) 8 0 6 fun i hi => by
    rw [hbit _ (by omega), if_neg (by omega), if_pos (by omega)]
    exact congrArg _ (by omega)
  have htop := field_eq (x := addrT t v1 v2) (y := 0#15) 14 0 1 fun i hi => by
    rw [hbit _ (by omega), if_neg (by omega), if_neg (by omega), BitVec.getLsbD_zero]
  simp only [BitVec.toNat_ofNat] at htop
  omega

/-- The fields of T after a control write, in numbers. -/
theorem ctrlWriteT_fields (t : VAddr) (v : Byte) :
    (ctrlWriteT t v).toNat / 1024 % 4 = v.toNat % 4 ∧ (ctrlWriteT t v).toNat % 1024 = t.toNat % 1024 ∧
    (ctrlWriteT t v).toNat / 4096 = t.toNat / 4096 := by
  have hT := (ctrlWriteT t v).isLt
  have ht := t.isLt
  have hbit (k : Nat) (hk : k < 15) := ctrlWriteT_getLsbD t v hk
  have hnt := field_eq (x := ctrlWriteT t v) (y := v) 10 0 2 fun i hi => by
    rw [hbit _ (by omega), if_pos (by omega)]
    exact congrArg _ (by omega)
  have hlow := field_eq (x := ctrlWriteT t v) (y := t) 0 0 10 fun i hi => by
    rw [hbit _ (by omega), if_neg (by omega)]
  have hhigh := field_eq (x := ctrlWriteT t v) (y := t) 12 12 3 fun i hi => by
    rw [hbit _ (by omega), if_neg (by omega)]
  omega

/-- Settles O41: the pairs in closed form, and the fields of what they leave in T. -/
theorem scrollAndAddressWrites : Obligations.ScrollAndAddressWrites := by
  intro s v1 v2 hw
  obtain ⟨hx, hy, hfine, hnt⟩ := scrollT_fields s.ppu.t v1 v2
  obtain ⟨hctrl, hlow, hhigh⟩ := ctrlWriteT_fields s.ppu.t v1
  refine ⟨?_, ?_, ?_, ?_, ?_, ?_⟩
  · rintro t rfl
    rw [memWrite_2005_pair hw]
    exact ⟨hx, BitVec.toNat_setWidth .., hy, hfine, hnt, rfl, rfl⟩
  · rintro t rfl
    rw [memWrite_2006_pair hw]
    exact ⟨addrT_toNat _ _ _, rfl, rfl, rfl⟩
  · rw [memWrite_2005, State.setPpu_ppu, scrollWrite, hw]
    rfl
  · rw [memWrite_2006, State.setPpu_ppu, addrWrite, hw]
    rfl
  · rw [memWrite_2006, State.setPpu_ppu, addrWrite, hw]
    rfl
  · rintro t rfl
    rw [memWrite_2000]
    exact ⟨hctrl, hlow, hhigh, rfl⟩

/-! ## The register reads -/

/-- Settles O42: the decode leaves the register's own read; the data port reads the PPU space once or twice. -/
theorem ppuPortReads : Obligations.PpuPortReads := by
  intro s hm q hq
  have haddr : s.ppu.vAddr = q := BitVec.eq_of_toNat_eq ((vAddr_toNat s.ppu).trans hq.symm)
  have hport : memRead s 0x2007#16 = dataRead s := memRead_dataPort s (by decide) (by decide) (by decide)
  refine ⟨?_, ?_, ?_, fun hlow => ?_, fun hhigh => ?_⟩
  · rw [memRead_ppuReg s (by decide) (by decide)]
    rfl
  · rw [memRead_ppuReg s (by decide) (by decide)]
    rfl
  · simp only [List.forall_mem_cons, List.not_mem_nil, false_imp_iff, implies_true, and_true]
    refine ⟨?_, ?_, ?_, ?_, ?_⟩
    all_goals
      rw [memRead_ppuReg s (by decide) (by decide)]
      rfl
  · have hbelow : ¬ 0x3F00#14 ≤ q := Nat.not_le.mpr hlow
    simp only [hport, dataRead, haddr, if_neg hbelow, ppuRead_snd hm]
    rfl
  · have hpalette : 0x3F00#14 ≤ q := hhigh
    simp only [hport, dataRead, haddr, if_pos hpalette, ppuRead_snd hm]
    rfl

end Sys2Proof.Machine
end

section
/-! PROOFS. The system reset (70 R500-R502, R504) and the launch (21 R150, 70 R503). -/

namespace Sys2Proof.Machine

/-! ## The reset -/

/-- The reset in closed form: the vector's reads change nothing, so the PC is what the vector holds before it. -/
theorem systemReset_eq (s : State) : s.systemReset =
    (ppuReset (busReset s)).setCpu (Cpu.afterReset s.cpu.a s.cpu.x s.cpu.y (peek16 s 0xFFFC#16)) := by
  have hvector : read16 (ppuReset (busReset s)) resetVector = (peek16 s 0xFFFC#16, ppuReset (busReset s)) :=
    read16_mapper rfl (by decide) (by decide)
  simp only [State.systemReset, cpuReset, hvector]
  rfl

/-- Settles O53: the fields of the closed form. -/
theorem systemResetEffect : Obligations.SystemResetEffect := by
  intro s
  rw [systemReset_eq]
  exact ⟨rfl, rfl, rfl, rfl, rfl, rfl, rfl, rfl, rfl, rfl, rfl⟩

/-! ## The store of a list of bytes -/

theorem Memory.ofCells_append_singleton (cells : List Host.Cell) (cell : Host.Cell) :
    Memory.ofCells (cells ++ [cell]) = Memory.write (Memory.ofCells cells) cell.1 cell.2 := by
  rw [Memory.ofCells, List.foldl_append]
  rfl

/-- The last byte listed for an index is the one the store reads there. -/
theorem Memory.read_ofCells (cells : List Host.Cell) (i : Nat) : Memory.read (Memory.ofCells cells) i =
    ((cells.reverse.find? fun cell => cell.1 = i).map Prod.snd).getD Config.unlistedByte := by
  induction cells using List.reverseRecOn with
  | nil => rfl
  | append_singleton cells cell ih =>
    rw [Memory.ofCells_append_singleton, Memory.read_write _ _ _ _ (Memory.ofCells_wf cells), ih, List.reverse_concat,
      List.find?_cons]
    by_cases h : cell.1 = i <;> simp [h]

/-! ## The launch -/

/-- The mappers the model supports (21 R150). -/
theorem mapperOf_supported {id : Nat} (h : id = 0 ∨ id = 1) : mapperOf id = some (if id = 0 then .nrom else .mmc1) := by
  obtain rfl | rfl := h <;> rfl

theorem mapperOf_unsupported {id : Nat} (h0 : id ≠ 0) (h1 : id ≠ 1) : mapperOf id = none := by
  obtain ⟨n, rfl⟩ : ∃ n, id = n + 2 := ⟨id - 2, by omega⟩
  rfl

theorem powerOn_of_unsupported {c : Cartridge} (h : mapperOf c.mapperId = none) (prm : Params) (v : PowerOnValues) :
    State.powerOn c prm v = .refused .unsupportedMapper := by
  rw [State.powerOn, h]

theorem powerOn_of_no_prg {c : Cartridge} {m : Mapper} (h : mapperOf c.mapperId = some m) (hprg : c.prgBanks = 0)
    (prm : Params) (v : PowerOnValues) : State.powerOn c prm v = .refused .noPrgBanks := by
  have hok : ¬ c.prgOk = true := by simp [Cartridge.prgOk, hprg]
  rw [State.powerOn, h]
  exact if_neg hok

theorem powerOn_of_supported {c : Cartridge} {m : Mapper} (h : mapperOf c.mapperId = some m) (hprg : 1 ≤ c.prgBanks)
    (prm : Params) (v : PowerOnValues) : State.powerOn c prm v = .next (powerOnState c m prm v).systemReset := by
  have hok : c.prgOk = true := decide_eq_true hprg
  have hnone : (powerOnState c m prm v).systemReset.refusal = none := by
    rw [systemReset_eq]
    rfl
  rw [State.powerOn, h]
  exact (if_pos hok).trans (finish_of_none hnone)

/-- Control at power-on (21 R171), as a test of the header. -/
theorem powerOnControl_eq (m : HeaderMirror) :
    Cart.powerOnControl m = if m = .vertical then 0x0E#5 else 0x0F#5 := by
  cases m <;> rfl

/-- The reset loads the PC with what the vector holds after it: the cartridge is the same. -/
theorem systemReset_pc (s : State) : s.systemReset.cpu.pc = peek16 s.systemReset 0xFFFC#16 := by
  have hcart : s.systemReset.cart = s.cart := by rw [systemReset_eq]; rfl
  rw [peek16, peek_mapper_congr hcart (by decide), peek_mapper_congr hcart (by decide), systemReset_eq]
  rfl

/-- Settles O54: each outcome of the launch by its own lemma; the contents are the reset's frame. -/
theorem powerOnOutcomes : Obligations.PowerOnOutcomes := by
  intro c prm v
  refine ⟨fun ⟨h0, h1⟩ => powerOn_of_unsupported (mapperOf_unsupported h0 h1) prm v,
    fun ⟨hid, hprg⟩ => powerOn_of_no_prg (mapperOf_supported hid) hprg prm v, fun ⟨hid, hprg⟩ => ?_, Memory.read_ofCells⟩
  refine ⟨_, powerOn_of_supported (mapperOf_supported hid) hprg prm v, ?_⟩
  have hpc := systemReset_pc (powerOnState c (if c.mapperId = 0 then .nrom else .mmc1) prm v)
  rw [systemReset_eq] at hpc ⊢
  refine ⟨rfl, rfl, rfl, rfl, rfl, rfl, hpc, rfl, rfl, rfl, rfl, rfl, rfl, rfl, rfl, rfl, ?_, rfl, rfl, rfl, rfl, rfl, rfl,
    powerOnControl_eq c.mirror, rfl, rfl, rfl⟩
  simp only [List.forall_mem_cons, List.not_mem_nil, false_imp_iff, implies_true, and_true]
  exact ⟨Memory.ofCells_wf _, Memory.ofCells_wf _, Memory.ofCells_wf _, Memory.ofCells_wf _, Memory.ofCells_wf _,
    Memory.ofCells_wf _, Memory.ofCells_wf _⟩

end Sys2Proof.Machine
end
